-- ==== Sys2Proof/Word.lean ====
section
/-! DEFINITION. Bytes, fixed-length byte groups and frames: the values every other file is written over
(spec/00_scope.md rule R7; spec/30_encoding.md rule R97: every operand is an unsigned byte or byte string). -/

namespace Sys2Proof

/-- A byte, bit 7 the most significant (R7). -/
abbrev Byte := BitVec 8

/-- A 16-bit value: the CRC (R110). -/
abbrev Word16 := BitVec 16

/-- Two bytes in wire order: `SETTINGS.PACK[0..1]` (R33). -/
structure Bytes2 where
  b0 : Byte
  b1 : Byte
  deriving DecidableEq, Repr, Inhabited

/-- Three bytes in wire order: the level-1 part of a UID (R150). -/
structure Bytes3 where
  b0 : Byte
  b1 : Byte
  b2 : Byte
  deriving DecidableEq, Repr, Inhabited

/-- Four bytes in wire order: one tag page, a password (R33, R59). -/
structure Bytes4 where
  b0 : Byte
  b1 : Byte
  b2 : Byte
  b3 : Byte
  deriving DecidableEq, Repr, Inhabited

/-- Sixteen bytes in wire order, as four pages: COMP_WRITE data, a packed settings record (R90, R216). -/
structure Bytes16 where
  p0 : Bytes4
  p1 : Bytes4
  p2 : Bytes4
  p3 : Bytes4
  deriving DecidableEq, Repr, Inhabited

/-- The seven bytes of the tag's unique id (R24). -/
structure Uid where
  head : Bytes3
  tail : Bytes4
  deriving DecidableEq, Repr, Inhabited

def Bytes2.toList (b : Bytes2) : List Byte := [b.b0, b.b1]
def Bytes3.toList (b : Bytes3) : List Byte := [b.b0, b.b1, b.b2]
def Bytes4.toList (b : Bytes4) : List Byte := [b.b0, b.b1, b.b2, b.b3]
def Bytes16.toList (b : Bytes16) : List Byte :=
  b.p0.toList ++ b.p1.toList ++ b.p2.toList ++ b.p3.toList
def Uid.toList (u : Uid) : List Byte := u.head.toList ++ u.tail.toList

/-- A frame of R7: a byte string in wire order and an exact bit count. Frame bit `i` is bit `i mod 8` of byte
`i div 8`, least significant bit of each byte first. -/
structure Frame where
  bytes : List Byte
  bits : Nat
  deriving DecidableEq, Repr

/-- The frame of whole bytes `b`. -/
def Frame.ofBytes (b : List Byte) : Frame := ⟨b, 8 * b.length⟩

/-- R7: `8*(len(b)-1) < n <= 8*len(b)`, or `n = 0` and `b` empty. -/
def Frame.wf (f : Frame) : Bool :=
  if f.bits = 0 then f.bytes.isEmpty
  else decide (8 * (f.bytes.length - 1) < f.bits) && decide (f.bits ≤ 8 * f.bytes.length)

/-- What the transport answers to a receive (R52, R54): the exact bit count, the buffer, and, for
`receive_bits_with_crc`, whether the check passed. -/
structure Answer where
  bits : Nat
  buf : List Byte
  crcOk : Bool
  deriving DecidableEq, Repr

end Sys2Proof
end

