-- ==== Sys2Proof/Config.lean ====
section
/-! DEFINITION. What an implementation or the host fixes (spec/00_scope.md rule R6), the record types those
choices are written in, and the free values of the model: opaque constants without a body, so that no proof can
see their value. -/

namespace Sys2Proof

/-- `VARIANT`: the three tag storage variants (R6, R21). -/
inductive Variant where
  | a
  | b
  | c
  deriving DecidableEq, Repr, Inhabited

/-- `CRC_MODE` (R6, R22). -/
inductive CrcMode where
  | hw
  | sw
  deriving DecidableEq, Repr, Inhabited

/-- The pluggable `crc16` (R55, R111), named by plain data.
`crcA` is the instance for real tags (R112), `constant w` the fake function of X7, `injected k` any other function:
the opaque `Config.injectedCrc k`. Log 10. -/
inductive CrcFn where
  | crcA
  | constant (w : Word16)
  | injected (k : Word16)
  deriving DecidableEq, Repr, Inhabited

/-- The Transport Capability Set as ATTACH receives it (R22, R50, R57): which primitives are present, and the CRC
function or its absence. `detect_collision` carries no presence rule, so it has no flag. -/
structure Transport where
  transmit : Bool
  receive : Bool
  transmitCrc : Bool
  receiveCrc : Bool
  crc16 : Option CrcFn
  deriving DecidableEq, Repr, Inhabited

/-- `MIRROR_MODE` (R33). -/
inductive MirrorMode where
  | none
  | uid
  | counter
  | both
  deriving DecidableEq, Repr, Inhabited

/-- The Settings Record (R33): exactly the fields of its table, each of its width. -/
structure Settings where
  mirrorMode : MirrorMode
  mirrorByte : BitVec 2
  mirrorPage : Byte
  strongMod : Bool
  auth0 : Byte
  pwdLock : Bool
  cfgLock : Bool
  cntEn : Bool
  cntProt : Bool
  authLim : BitVec 3
  pwd : Bytes4
  pack : Bytes2
  deriving DecidableEq, Repr, Inhabited

/-- The default column of R33 (R34 fixes `PWD`, `PWD_LOCK`, `CFG_LOCK`, `CNT_PROT`; the rest is decision D23:
DESIGN CHOICE of the spec, log 2, and for STRONG_MOD, AUTH0 and PACK PRESUMED, log 3; unsafe). -/
def Settings.default : Settings where
  mirrorMode := .none
  mirrorByte := 0
  mirrorPage := 0
  strongMod := true
  auth0 := 0xFF
  pwdLock := false
  cfgLock := false
  cntEn := false
  cntProt := false
  authLim := 0
  pwd := ⟨0xFF, 0xFF, 0xFF, 0xFF⟩
  pack := ⟨0, 0⟩

/-- The 32-bit integer view of `PWD`, little-endian (R33, D11). -/
def Settings.pwdValue (r : Settings) : Nat :=
  r.pwd.b0.toNat + 256 * r.pwd.b1.toNat + 65536 * r.pwd.b2.toNat + 16777216 * r.pwd.b3.toNat

/-- The 16-bit integer view of `PACK`, little-endian (R33, D11). -/
def Settings.packValue (r : Settings) : Nat := r.pack.b0.toNat + 256 * r.pack.b1.toNat

/-- The Version Record: eight fields of one byte each, in the source's listing order (R37, R172; the offsets are
decision D31, log 24). The session does not store it. -/
structure VersionRecord where
  header : Byte
  vendor : Byte
  productType : Byte
  productSubtype : Byte
  major : Byte
  minor : Byte
  storageSize : Byte
  protocol : Byte
  deriving DecidableEq, Repr, Inhabited

/-- The seven Acknowledgement Codes, a closed enumeration (R39). -/
inductive AckCode where
  | ack
  | nakArgument
  | nakCrc
  | nakAuthOverflow
  | nakWriteError
  | nakTimeout
  | nakDisconnected
  deriving DecidableEq, Repr, Inhabited

/-- The codes `NOISE_CODE` may be: any code other than ACK (R6, D15). -/
inductive NoiseCode where
  | argument
  | crc
  | authOverflow
  | writeError
  | timeout
  | disconnected
  deriving DecidableEq, Repr, Inhabited

/-- A settings codec other than the default one (R216): two total functions and the law required of any codec. -/
structure LawfulCodec where
  pack : Settings → Bytes16
  unpack : Bytes16 → Settings
  unpack_pack : ∀ r, unpack (pack r) = r

/-- Which settings codec the session uses (R216): the default layout of R217, or another, `custom k`, which is the
opaque `Config.customCodec k`. Log 11. -/
inductive SettingsCodec where
  | standard
  | custom (k : Nat)
  deriving DecidableEq, Repr, Inhabited

/-- The most UID bytes an FSEL frame carries (R92). -/
def maxUidPart : Nat := 5

/-- The two select frames (R81, R146, R148). -/
inductive SelectLevel where
  | one
  | two
  deriving DecidableEq, Repr, Inhabited

/-- One exchange of a select procedure (R150): the select frame with its NVB and UID bytes (R92), whether it carries
CRC (TXCRC, R83), the receive that follows it (bits, CRC), and whether its answer is followed by a collision probe. -/
structure SelectAsk where
  level : SelectLevel
  nvb : Byte
  uidPart : { u : List Byte // u.length ≤ maxUidPart }
  txCrc : Bool
  rxBits : Nat
  rxCrc : Bool
  probe : Bool
  deriving DecidableEq, Repr

/-- What a select procedure does next (R150): it finds the last answer malformed, makes an exchange, or is complete
with the seven captured bytes. -/
inductive SelectAction where
  | malformed
  | send (ask : SelectAsk)
  | done (uid : Uid)
  deriving DecidableEq, Repr, Inhabited

/-- The parameter `SelectProc` (R6, R150, D10): the default cascade of R150, or another procedure, `custom k`, which is
the opaque `Config.customSelect k`. Log 12. -/
inductive SelectProc where
  | standard
  | custom (k : Nat)
  deriving DecidableEq, Repr, Inhabited

/-- The open parameters of R6 that are plain data. Log 9. -/
structure Params where
  atqaBits : Nat
  cntBits : Nat
  sigBits : Nat
  noise : NoiseCode
  /-- `TXCRC` of the two anticollision requests of the default `SelectProc` (R83, R150, D29). -/
  anticollCrc : Bool
  selectProc : SelectProc
  codec : SettingsCodec
  deriving DecidableEq, Repr, Inhabited

/-- The defaults of R6's table (DESIGN CHOICE of the spec, log 9; unsafe for a claim that rests on one). -/
def Params.default : Params where
  atqaBits := 16
  cntBits := 24
  sigBits := 256
  noise := .crc
  anticollCrc := true
  selectProc := .standard
  codec := .standard

/-- An injected CRC function number `k`: any function of its bytes (R55, R111). Log 10; safe. -/
opaque Config.injectedCrc : Word16 → List Byte → Word16

/-- The CRC value computed where no `crc16` is attached: `SW` mode without one, which no ATTACH makes (R57).
A free value. Log 10; safe. -/
opaque Config.absentCrc : List Byte → Word16

/-- Settings codec number `k`: any lawful codec (R216); `none` stands for the default one. Log 11; safe. -/
opaque Config.customCodec : Nat → Option LawfulCodec

/-- Select procedure number `k` (R150): what it does after the answers received so far, oldest first. An answer is the
payload of a receive whose code was ACK, `none` for a bare 4-bit ACK. Log 12; safe. -/
opaque Config.customSelect : Nat → List (Option (List Byte)) → SelectAction

/-- `sent_all` of a transmit for which no answer is listed (R51): a free value. Log 6; safe. -/
opaque Config.freeSentAll : Nat → Bool

/-- `detect_collision()` when no answer is listed (R56): a free value. Log 6; safe. -/
opaque Config.freeCollision : Nat → Bool

/-- The bit count of a receive for which no answer is listed (R52): a free value. Log 6; safe. -/
opaque Config.freeRxBits : Nat → Nat

/-- Byte `i` of the buffer of a receive for which no answer is listed (R52): a free value. Log 6; safe. -/
opaque Config.freeRxByte : Nat → Nat → Byte

/-- `crc_ok` of a receive for which no answer is listed (R54): a free value. Log 6; safe. -/
opaque Config.freeCrcOk : Nat → Bool

end Sys2Proof
end

