-- ==== Sys2Proof/Machine/Codec.lean ====
section
/-! DEFINITION. The settings codec (spec/45_settings_commands.md rules R215 to R217): the base page of the record, and
the packing of a Settings Record into sixteen bytes, four pages. -/

namespace Sys2Proof.Machine

/-- `CFG_BASE(VARIANT)` (R64, R215). -/
def cfgBase : Variant → Byte
  | .a => 0x29
  | .b => 0x83
  | .c => 0xE3

/-- The numbers of the mirror modes, in listing order (R33, D32). -/
def mirrorBits : MirrorMode → BitVec 2
  | .none => 0
  | .uid => 1
  | .counter => 2
  | .both => 3

/-- The mirror mode of a number (D32). -/
def mirrorOfBits (m : BitVec 2) : MirrorMode :=
  if m = 0 then .none else if m = 1 then .uid else if m = 2 then .counter else .both

/-- Byte 0 of the packed record: mode 7:6, byte 5:4, reserved 3, strong modulation 2, reserved 1:0 (R217). -/
def packMirror (r : Settings) : Byte :=
  mirrorBits r.mirrorMode ++ r.mirrorByte ++ 0#1 ++ BitVec.ofBool r.strongMod ++ 0#2

/-- Byte 4 of the packed record: password lock 7, configuration lock 6, reserved 5, counter enable 4, counter
protect 3, attempt limit 2:0 (R217). -/
def packAccess (r : Settings) : Byte :=
  BitVec.ofBool r.pwdLock ++ BitVec.ofBool r.cfgLock ++ 0#1 ++ BitVec.ofBool r.cntEn
    ++ BitVec.ofBool r.cntProt ++ r.authLim

/-- `pack` of the default codec (R217; a layout the spec takes from general knowledge, PRESUMED, log 11). -/
def packStandard (r : Settings) : Bytes16 where
  p0 := ⟨packMirror r, 0, r.mirrorPage, r.auth0⟩
  p1 := ⟨packAccess r, 0, 0, 0⟩
  p2 := r.pwd
  p3 := ⟨r.pack.b0, r.pack.b1, 0, 0⟩

/-- `unpack` of the default codec: reserved bits are ignored (R217). -/
def unpackStandard (b : Bytes16) : Settings where
  mirrorMode := mirrorOfBits (b.p0.b0.extractLsb' 6 2)
  mirrorByte := b.p0.b0.extractLsb' 4 2
  mirrorPage := b.p0.b2
  strongMod := b.p0.b0.getLsbD 2
  auth0 := b.p0.b3
  pwdLock := b.p1.b0.getLsbD 7
  cfgLock := b.p1.b0.getLsbD 6
  cntEn := b.p1.b0.getLsbD 4
  cntProt := b.p1.b0.getLsbD 3
  authLim := b.p1.b0.extractLsb' 0 3
  pwd := b.p2
  pack := ⟨b.p3.b0, b.p3.b1⟩

/-- `pack` of the session's codec (R216). -/
def pack : SettingsCodec → Settings → Bytes16
  | .standard, r => packStandard r
  | .custom k, r =>
    match Config.customCodec k with
    | some c => c.pack r
    | none => packStandard r

/-- `unpack` of the session's codec (R216). -/
def unpack : SettingsCodec → Bytes16 → Settings
  | .standard, b => unpackStandard b
  | .custom k, b =>
    match Config.customCodec k with
    | some c => c.unpack b
    | none => unpackStandard b

/-- Page `i` of a packed record: bytes `4i .. 4i+3` (R216). Four pages exist; an index past 3 reads the last one and
no command makes one. -/
def pageOf (b : Bytes16) : Nat → Bytes4
  | 0 => b.p0
  | 1 => b.p1
  | 2 => b.p2
  | _ => b.p3

end Sys2Proof.Machine
end

