-- ==== Sys2Proof/Machine/Crc.lean ====
section
/-! DEFINITION. The CRC engine (spec/40_primitives.md rules R110 to R114) and the byte order of a 16-bit value on the
wire (spec/20_memory.md rule R61: low byte first). -/

namespace Sys2Proof.Machine

/-- `lo8(c) = c[7:0]` (R7). -/
def lo8 (c : Word16) : Byte := c.extractLsb' 0 8

/-- `hi8(c) = c[15:8]` (R7). -/
def hi8 (c : Word16) : Byte := c.extractLsb' 8 8

/-- The 16-bit value whose low byte is `lo` and whose high byte is `hi`. -/
def word16 (lo hi : Byte) : Word16 := hi ++ lo

/-- One of the eight inner steps of CRC_A (R112). -/
def crcAStep (c : Word16) : Word16 :=
  if c.getLsbD 0 then (c >>> 1) ^^^ 0x8408 else c >>> 1

/-- One outer step of CRC_A: the byte is XORed in, then eight inner steps (R112). -/
def crcAByte (c : Word16) (b : Byte) : Word16 :=
  crcAStep (crcAStep (crcAStep (crcAStep (crcAStep (crcAStep (crcAStep (crcAStep (c ^^^ b.zeroExtend 16))))))))

/-- CRC_A with preset 0x6363 (R112; the bit procedure is the spec's passage from general knowledge, PRESUMED, log 10). -/
def crcA (b : List Byte) : Word16 := b.foldl crcAByte 0x6363

/-- The function a `CrcFn` names (R55, R111). -/
def crcOf : CrcFn → List Byte → Word16
  | .crcA, b => crcA b
  | .constant w, _ => w
  | .injected k, b => Config.injectedCrc k b

/-- The CRC trailer: low byte, then high byte (R61, R91). -/
def crcTrailer (f : List Byte → Word16) (b : List Byte) : List Byte := [lo8 (f b), hi8 (f b)]

/-- `CrcAppend(b)` (R113). -/
def crcAppend (f : List Byte → Word16) (b : List Byte) : List Byte := b ++ crcTrailer f b

/-- `CrcCheck(r)` (R114): the payload when the trailing two bytes are its CRC, `none` for fail, also when there are no
trailing two bytes (D17). -/
def crcCheck (f : List Byte → Word16) (r : List Byte) : Option (List Byte) :=
  if r.length < 2 then none
  else if r.drop (r.length - 2) = crcTrailer f (r.take (r.length - 2)) then some (r.take (r.length - 2))
  else none

end Sys2Proof.Machine
end

