-- ==== Sys2Proof/Syntax.lean ====
section
/-! DEFINITION. The instruction set: one constructor for each row of spec/opcode_table.json
(spec/30_encoding.md rules R100 and R102). A row of direction `tx` is a command frame, `rx` a response, `host` a host
command without a frame of its own. -/

namespace Sys2Proof

/-- The instructions. Operands are those of R100 and of the row's format; a `tx` row that is also a host command is
the host command. Beyond the one inductive, this file declares nothing. -/
inductive Instr where
  /-- REQUEST, format F7 (R84, R142). -/
  | request
  /-- WAKEUP, format F8 (R85, R144). -/
  | wakeup
  /-- HALT, format F8 (R85, R152). -/
  | halt
  /-- GET_VERSION, format F8 (R85, R170). -/
  | getVersion
  /-- READ, format F16 (R86, R174). -/
  | read (page : Byte)
  /-- FAST_READ, format F24 (R87, R176). -/
  | fastRead (start stop : Byte)
  /-- WRITE, format F48 (R88, R190). -/
  | write (page : Byte) (data : Bytes4)
  /-- COMP_WRITE.P1: the host command COMP_WRITE, which sends the F16 frame of phase 1 (R86, R100, R194). -/
  | compWriteP1 (page : Byte) (data : Bytes16)
  /-- COMP_WRITE.P2: the D128 data frame of phase 2 (R90, R194). -/
  | compWriteP2 (data : Bytes16)
  /-- READ_CNT, format F16 (R86, R178). -/
  | readCnt (index : Byte)
  /-- PWD_AUTH, format F40 (R89, R205). -/
  | pwdAuth (pwd : Bytes4)
  /-- READ_SIG, format F16 with a reserved zero byte (R86, R180). -/
  | readSig
  /-- SELECT_L1, format FSEL (R92, R146). -/
  | selectL1 (nvb : Byte) (uidPart : List Byte)
  /-- SELECT_L2, format FSEL (R92, R148). -/
  | selectL2 (nvb : Byte) (uidPart : List Byte)
  /-- The 4-bit response 0xA (R94, R118). -/
  | ack
  /-- The 4-bit response 0x0 (R94, R118). -/
  | nakArgument
  /-- The 4-bit response 0x1 (R94, R118). -/
  | nakCrc
  /-- The 4-bit response 0x4 (R94, R118). -/
  | nakAuthOverflow
  /-- The 4-bit response 0x5 (R94, R118). -/
  | nakWriteError
  /-- The 4-bit response 0xF (R94, R118). -/
  | nakTimeout
  /-- The 4-bit response 0xC (R94, R118). -/
  | nakDisconnected
  /-- A response of whole bytes, the CRC trailer included where the engine checks it itself; `crcOk` is the second
  answer of `receive_bits_with_crc` (R54, R93, R120). -/
  | payload (bytes : List Byte) (crcOk : Bool)
  /-- A receive of 0 bits (R93, R120, R158). -/
  | timeout
  /-- ATTACH variant, transport, crc_mode, crc16 (R140); any variant byte may be presented, only 0, 1 and 2 name one. -/
  | attach (variant : Byte) (transport : Transport) (mode : CrcMode)
  /-- DISCONNECT (R154). -/
  | disconnect
  /-- DESTROY (R156). -/
  | destroy
  /-- CONNECT, a macro over SELECT_L1 and SELECT_L2 (R101, R150). -/
  | connect
  /-- READ_SETTINGS, a macro over READ (R101, R220). -/
  | readSettings
  /-- WRITE_SETTINGS record, a macro over WRITE (R101, R224). -/
  | writeSettings (record : Settings)
  deriving DecidableEq, Repr

end Sys2Proof
end

