-- ==== Sys2Proof/WellFormed.lean ====
section
/-! DEFINITION. Which instruction terms the spec's formats accept. Fixed-width operands hold by their types; what is
left are the two variable lengths of the table: FSEL carries at most five bytes (spec/30_encoding.md rule R92) and
PAYLOAD at least one (R93 (P), the table's `L >= 1`). -/

namespace Sys2Proof

/-- Whether the term is one the table's formats accept. -/
def Instr.wf : Instr → Bool
  | .request => true
  | .wakeup => true
  | .halt => true
  | .getVersion => true
  | .read _ => true
  | .fastRead _ _ => true
  | .write _ _ => true
  | .compWriteP1 _ _ => true
  | .compWriteP2 _ => true
  | .readCnt _ => true
  | .pwdAuth _ => true
  | .readSig => true
  | .selectL1 _ u => decide (u.length ≤ maxUidPart)
  | .selectL2 _ u => decide (u.length ≤ maxUidPart)
  | .ack => true
  | .nakArgument => true
  | .nakCrc => true
  | .nakAuthOverflow => true
  | .nakWriteError => true
  | .nakTimeout => true
  | .nakDisconnected => true
  | .payload b _ => decide (1 ≤ b.length)
  | .timeout => true
  | .attach _ _ _ => true
  | .disconnect => true
  | .destroy => true
  | .connect => true
  | .readSettings => true
  | .writeSettings _ => true

end Sys2Proof
end

