-- ==== Sys2Proof/Decode.lean ====
section
/-! DEFINITION. The decoder and, after it, the encoder (spec/30_encoding.md rules R80 to R99). An encoded instruction
stands in one of three places: on the host's command port, in the TX frame buffer, or at the transport as the answer
to a receive. The opcode alone selects a command frame (R81), the exact bit count a response (R93). The word forms of
host commands without a frame, and of operands that no frame carries, are the model's (HOSTCMD_ENCODING is open, D2):
DESIGN CHOICE, log 7. -/

namespace Sys2Proof

/-- Where an encoded instruction stands. -/
inductive Encoded where
  /-- A host command on the command port. -/
  | cmd (f : Frame)
  /-- A frame payload in the TX buffer, before the CRC trailer. -/
  | tx (f : Frame)
  /-- The transport's answer to a receive. -/
  | rx (a : Answer)
  deriving DecidableEq, Repr

/-- Why bits are no instruction. -/
inductive DecodeError where
  /-- A frame without a byte. -/
  | empty
  /-- A first byte that selects no command here (R98, D2). -/
  | unknownSelector
  /-- An opcode with a bit count or byte count that its format does not have (R82). -/
  | badLength
  /-- The reserved byte of READ_SIG is not 0x00 (R86, R98). -/
  | reservedOperand
  /-- Operand bytes of ATTACH that name no capability set. -/
  | badOperand
  /-- A command whose data operand is absent (R190, R251 `BUF_EMPTY`, D33). -/
  | absentOperand
  /-- A 4-bit response that names no code (R99). -/
  | reservedNibble
  /-- A received bit count that is not 0, not 4 and no multiple of 8 (R66). -/
  | malformedLength
  /-- An answer that announces more bits than its buffer holds: none that a receive can give (R52). -/
  | shortBuffer
  deriving DecidableEq, Repr

namespace Opcode

/-! The opcodes of R81, and the model's selectors of the host commands that have none (log 7). -/

def request : Byte := 0x26
def wakeup : Byte := 0x52
def halt : Byte := 0x50
def getVersion : Byte := 0x60
def read : Byte := 0x30
def fastRead : Byte := 0x3A
def write : Byte := 0xA2
def compWrite : Byte := 0xA0
def readCnt : Byte := 0x39
def pwdAuth : Byte := 0x1B
def readSig : Byte := 0x3C
def selectL1 : Byte := 0x93
def selectL2 : Byte := 0x95
def attach : Byte := 0xE0
def connect : Byte := 0xE1
def disconnect : Byte := 0xE2
def destroy : Byte := 0xE3
def readSettings : Byte := 0xE4
def writeSettings : Byte := 0xE5

end Opcode

/-- The instruction `i`, if the frame has exactly `n` bits. -/
def exactly (f : Frame) (n : Nat) (i : Instr) : Except DecodeError Instr :=
  if f.bits = n then .ok i else .error .badLength

/-- A frame of `n` bits that is its opcode alone (R84, R85). -/
def decodeBare (f : Frame) (n : Nat) (args : List Byte) (i : Instr) : Except DecodeError Instr :=
  match args with
  | [] => exactly f n i
  | _ => .error .badLength

/-- Format F16 with a free argument (R86). -/
def decodeArgument (f : Frame) (args : List Byte) (mk : Byte → Instr) : Except DecodeError Instr :=
  match args with
  | [p] => exactly f 16 (mk p)
  | _ => .error .badLength

/-- READ_SIG: its argument is the reserved zero byte (R86, R98). -/
def decodeReadSig (f : Frame) (args : List Byte) : Except DecodeError Instr :=
  match args with
  | [z] => if z = 0 then exactly f 16 .readSig else .error .reservedOperand
  | _ => .error .badLength

/-- Format F24 (R87). -/
def decodeFastRead (f : Frame) (args : List Byte) : Except DecodeError Instr :=
  match args with
  | [s, e] => exactly f 24 (.fastRead s e)
  | _ => .error .badLength

/-- Four bytes as a group, if there are exactly four. -/
def bytes4? : List Byte → Option Bytes4
  | [b0, b1, b2, b3] => some ⟨b0, b1, b2, b3⟩
  | _ => none

/-- A four-byte data operand of a frame of `n` bits; without bytes it is absent (R190, R251 `BUF_EMPTY`, D33). -/
def decodeData4 (f : Frame) (n : Nat) (data : List Byte) (mk : Bytes4 → Instr) : Except DecodeError Instr :=
  if data = [] then .error .absentOperand
  else
    match bytes4? data with
    | some d => exactly f n (mk d)
    | none => .error .badLength

/-- Format F48 (R88). -/
def decodeWrite (f : Frame) (args : List Byte) : Except DecodeError Instr :=
  match args with
  | [] => .error .badLength
  | p :: data => decodeData4 f 48 data (.write p)

/-- The frames of formats F7 to F48 that carry an opcode and all their operands (R84 to R89). -/
def decodeOpcode (f : Frame) (op : Byte) (args : List Byte) : Except DecodeError Instr :=
  if op = Opcode.request then decodeBare f 7 args .request
  else if op = Opcode.wakeup then decodeBare f 8 args .wakeup
  else if op = Opcode.halt then decodeBare f 8 args .halt
  else if op = Opcode.getVersion then decodeBare f 8 args .getVersion
  else if op = Opcode.read then decodeArgument f args .read
  else if op = Opcode.fastRead then decodeFastRead f args
  else if op = Opcode.write then decodeWrite f args
  else if op = Opcode.readCnt then decodeArgument f args .readCnt
  else if op = Opcode.pwdAuth then decodeData4 f 40 args .pwdAuth
  else if op = Opcode.readSig then decodeReadSig f args
  else .error .unknownSelector

/-- Sixteen bytes as a group, if there are exactly sixteen. -/
def bytes16? : List Byte → Option Bytes16
  | [a0, a1, a2, a3, b0, b1, b2, b3, c0, c1, c2, c3, d0, d1, d2, d3] =>
    some ⟨⟨a0, a1, a2, a3⟩, ⟨b0, b1, b2, b3⟩, ⟨c0, c1, c2, c3⟩, ⟨d0, d1, d2, d3⟩⟩
  | _ => none

/-- The CRC function that three operand bytes of ATTACH name (log 7). -/
def decodeCrcFn (kind lo hi : Byte) : Except DecodeError (Option CrcFn) :=
  if kind = 0 then (if lo = 0 ∧ hi = 0 then .ok none else .error .badOperand)
  else if kind = 1 then (if lo = 0 ∧ hi = 0 then .ok (some .crcA) else .error .badOperand)
  else if kind = 2 then .ok (some (.constant (Machine.word16 lo hi)))
  else if kind = 3 then .ok (some (.injected (Machine.word16 lo hi)))
  else .error .badOperand

/-- The operand bytes of ATTACH: variant, capabilities and mode, CRC function (log 7). -/
def decodeAttach (variant caps kind lo hi : Byte) : Except DecodeError Instr :=
  if caps.extractLsb' 5 3 = 0#3 then
    match decodeCrcFn kind lo hi with
    | .ok crc =>
      .ok (.attach variant ⟨caps.getLsbD 0, caps.getLsbD 1, caps.getLsbD 2, caps.getLsbD 3, crc⟩
        (if caps.getLsbD 4 then .hw else .sw))
    | .error e => .error e
  else .error .badOperand

/-- The host commands whose port word is no single frame (R100, log 7). -/
def decodeHost (f : Frame) (op : Byte) (args : List Byte) : Except DecodeError Instr :=
  if f.bits ≠ 8 * f.bytes.length then .error .badLength
  else if op = Opcode.compWrite then
    match args with
    | [_] => .error .absentOperand
    | p :: d =>
      match bytes16? d with
      | some b => .ok (.compWriteP1 p b)
      | none => .error .badLength
    | [] => .error .badLength
  else if op = Opcode.attach then
    match args with
    | [v, caps, kind, lo, hi] => decodeAttach v caps kind lo hi
    | _ => .error .badLength
  else if op = Opcode.connect then (if args = [] then .ok .connect else .error .badLength)
  else if op = Opcode.disconnect then (if args = [] then .ok .disconnect else .error .badLength)
  else if op = Opcode.destroy then (if args = [] then .ok .destroy else .error .badLength)
  else if op = Opcode.readSettings then (if args = [] then .ok .readSettings else .error .badLength)
  else if op = Opcode.writeSettings then
    if args = [] then .error .absentOperand
    else
      match bytes16? args with
      | some b => .ok (.writeSettings (Machine.unpackStandard b))
      | none => .error .badLength
  else .error .unknownSelector

/-- Whether a first byte selects a port word that is no single frame. -/
def isHostSelector (op : Byte) : Bool :=
  decide (op = Opcode.compWrite) || decide (op = Opcode.attach) || decide (op = Opcode.connect)
    || decide (op = Opcode.disconnect) || decide (op = Opcode.destroy)
    || decide (op = Opcode.readSettings) || decide (op = Opcode.writeSettings)

/-- A word of the command port (R100). SELECT and phase-2 frames are no host commands and are refused by name. -/
def decodeCmd (f : Frame) : Except DecodeError Instr :=
  match f.bytes with
  | [] => .error .empty
  | op :: args => if isHostSelector op then decodeHost f op args else decodeOpcode f op args

/-- A select frame: NVB, then at most five UID bytes (R92). -/
def decodeSelect (f : Frame) (args : List Byte) (mk : Byte → List Byte → Instr) : Except DecodeError Instr :=
  match args with
  | [] => .error .badLength
  | nvb :: u => if u.length ≤ maxUidPart then exactly f (16 + 8 * u.length) (mk nvb u) else .error .badLength

/-- A frame of the TX buffer (R102): the data frame of COMP_WRITE is the only one of 128 bits, and every other frame is
selected by its opcode. -/
def decodeTx (f : Frame) : Except DecodeError Instr :=
  if f.bits = 128 then
    match bytes16? f.bytes with
    | some d => .ok (.compWriteP2 d)
    | none => .error .badLength
  else
    match f.bytes with
    | [] => .error .empty
    | op :: args =>
      if op = Opcode.selectL1 then decodeSelect f args .selectL1
      else if op = Opcode.selectL2 then decodeSelect f args .selectL2
      else decodeOpcode f op args

/-- `NibbleToCode(v)` (R94, R118): the seven codes; every other value names none (R99). -/
def decodeNibble (v : BitVec 4) : Except DecodeError Instr :=
  if v = 0xA then .ok .ack
  else if v = 0x0 then .ok .nakArgument
  else if v = 0x1 then .ok .nakCrc
  else if v = 0x4 then .ok .nakAuthOverflow
  else if v = 0x5 then .ok .nakWriteError
  else if v = 0xF then .ok .nakTimeout
  else if v = 0xC then .ok .nakDisconnected
  else .error .reservedNibble

/-- An answer of the transport, told apart by its bit count alone, in the decoder's order (R93, R120, R258):
zero bits, exactly 4 bits (bits 3:0 of the first byte, R62), no multiple of 8, whole bytes. -/
def decodeRx (a : Answer) : Except DecodeError Instr :=
  if a.bits = 0 then .ok .timeout
  else if 8 * a.buf.length < a.bits then .error .shortBuffer
  else if a.bits = 4 then decodeNibble ((a.buf.headD 0).extractLsb' 0 4)
  else if a.bits % 8 ≠ 0 then .error .malformedLength
  else .ok (.payload (a.buf.take (a.bits / 8)) a.crcOk)

/-- The decoder, total on any bits in any place. -/
def decode : Encoded → Except DecodeError Instr
  | .cmd f => decodeCmd f
  | .tx f => decodeTx f
  | .rx a => decodeRx a

/-! ### The encoder -/

/-- The capability byte of ATTACH's port word (log 7). -/
def encodeCaps (t : Transport) (m : CrcMode) : Byte :=
  0#3 ++ BitVec.ofBool (decide (m = .hw)) ++ BitVec.ofBool t.receiveCrc ++ BitVec.ofBool t.transmitCrc
    ++ BitVec.ofBool t.receive ++ BitVec.ofBool t.transmit

/-- The CRC function bytes of ATTACH's port word (log 7). -/
def encodeCrcFn : Option CrcFn → List Byte
  | none => [0, 0, 0]
  | some .crcA => [1, 0, 0]
  | some (.constant w) => [2, Machine.lo8 w, Machine.hi8 w]
  | some (.injected k) => [3, Machine.lo8 k, Machine.hi8 k]

/-- The 4-bit answer with value `v` (R94). -/
def nibbleAnswer (v : Byte) : Answer := ⟨4, [v], false⟩

/-- The words of an instruction, from R84 to R94 for frames and responses and log 7 for the rest. -/
def encode : Instr → Encoded
  | .request => .cmd ⟨[Opcode.request], 7⟩
  | .wakeup => .cmd (Frame.ofBytes [Opcode.wakeup])
  | .halt => .cmd (Frame.ofBytes [Opcode.halt])
  | .getVersion => .cmd (Frame.ofBytes [Opcode.getVersion])
  | .read p => .cmd (Frame.ofBytes [Opcode.read, p])
  | .fastRead s e => .cmd (Frame.ofBytes [Opcode.fastRead, s, e])
  | .write p d => .cmd (Frame.ofBytes ([Opcode.write, p] ++ d.toList))
  | .compWriteP1 p d => .cmd (Frame.ofBytes ([Opcode.compWrite, p] ++ d.toList))
  | .compWriteP2 d => .tx (Frame.ofBytes d.toList)
  | .readCnt i => .cmd (Frame.ofBytes [Opcode.readCnt, i])
  | .pwdAuth w => .cmd (Frame.ofBytes (Opcode.pwdAuth :: w.toList))
  | .readSig => .cmd (Frame.ofBytes [Opcode.readSig, 0])
  | .selectL1 nvb u => .tx (Frame.ofBytes ([Opcode.selectL1, nvb] ++ u))
  | .selectL2 nvb u => .tx (Frame.ofBytes ([Opcode.selectL2, nvb] ++ u))
  | .ack => .rx (nibbleAnswer 0xA)
  | .nakArgument => .rx (nibbleAnswer 0x0)
  | .nakCrc => .rx (nibbleAnswer 0x1)
  | .nakAuthOverflow => .rx (nibbleAnswer 0x4)
  | .nakWriteError => .rx (nibbleAnswer 0x5)
  | .nakTimeout => .rx (nibbleAnswer 0xF)
  | .nakDisconnected => .rx (nibbleAnswer 0xC)
  | .payload b ok => .rx ⟨8 * b.length, b, ok⟩
  | .timeout => .rx ⟨0, [], false⟩
  | .attach v t m => .cmd (Frame.ofBytes ([Opcode.attach, v, encodeCaps t m] ++ encodeCrcFn t.crc16))
  | .disconnect => .cmd (Frame.ofBytes [Opcode.disconnect])
  | .destroy => .cmd (Frame.ofBytes [Opcode.destroy])
  | .connect => .cmd (Frame.ofBytes [Opcode.connect])
  | .readSettings => .cmd (Frame.ofBytes [Opcode.readSettings])
  | .writeSettings r => .cmd (Frame.ofBytes (Opcode.writeSettings :: (Machine.packStandard r).toList))

/-! ### The host's numbering of a table word -/

/-- The first `k` bytes of a word, bit 0 the least significant bit of the first. -/
def tableBytes (w : Nat) : Nat → List Byte
  | 0 => []
  | k + 1 => BitVec.ofNat 8 w :: tableBytes (w / 256) k

/-- How many bytes the port word of an opcode has (R82; the model's selectors, log 7). -/
def portBytes (op : Byte) : Nat :=
  if op = Opcode.read ∨ op = Opcode.readCnt ∨ op = Opcode.readSig then 2
  else if op = Opcode.fastRead then 3
  else if op = Opcode.write then 6
  else if op = Opcode.pwdAuth then 5
  else if op = Opcode.compWrite then 18
  else if op = Opcode.attach then 6
  else if op = Opcode.writeSettings then 17
  else 1

/-- A table row's word laid out where the engine meets it: no bits are a zero-bit receive, 128 bits a data frame, a
first byte below 16 a 4-bit response, a select opcode a frame of the TX buffer, anything else a word of the command
port. Bits above `nbits` are 0. -/
def tableWord (nbits w : Nat) : Encoded :=
  let v := w % 2 ^ nbits
  let op : Byte := BitVec.ofNat 8 v
  if nbits = 0 then .rx ⟨0, [], false⟩
  else if nbits = 128 then .tx (Frame.ofBytes (tableBytes v 16))
  else if op.toNat < 16 then .rx (nibbleAnswer op)
  else if op = Opcode.selectL1 ∨ op = Opcode.selectL2 then
    .tx (Frame.ofBytes (tableBytes v (max 2 ((nbits + 7) / 8))))
  else if op = Opcode.request then .cmd ⟨tableBytes v 1, 7⟩
  else .cmd (Frame.ofBytes (tableBytes v (portBytes op)))

/-- The instruction the decoder reads from a table word. -/
def decodeTableWord (nbits w : Nat) : Option Instr :=
  match decode (tableWord nbits w) with
  | .ok i => some i
  | .error _ => none

end Sys2Proof
end

