-- ==== Sys2Proof/Machine/State.lean ====
section
/-! DEFINITION. The state of the engine as plain data (spec/10_state.md; INVENTORY.md lists it rule by rule), the reset
state (rule R41), and the reasons a step can stop. -/

namespace Sys2Proof.Machine

/-- The six values of `STATE` (R26); no numeric encoding is given (D4). -/
inductive Session where
  | idle
  | requested
  | selected
  | authenticated
  | halted
  | disconnected
  deriving DecidableEq, Repr

/-- The type `Result` (R40): the seven Acknowledgement Codes and the engine-only `AUTH_MISMATCH`. -/
inductive Result where
  | code (c : AckCode)
  | authMismatch
  deriving DecidableEq, Repr

/-- The kinds `FAULT` may hold (R251). Raising one is a next state (log 5). -/
inductive FaultKind where
  | argRange
  | crcUnaligned
  | bufEmpty
  | badVariant
  | noTransport
  | noCrcCapability
  | seqViolation
  | txIncomplete
  | rxMalformed
  | rxLength
  | reservedNibble
  | selectMalformed
  deriving DecidableEq, Repr

/-- Whether a receive expects a payload or only a 4-bit acknowledgement (R120). -/
inductive RxKind where
  | payload
  | ackOnly
  deriving DecidableEq, Repr

/-- An outstanding receive: the expected payload bits `P`, whether CRC was requested, and its kind (R120). -/
structure Await where
  bits : Nat
  crc : Bool
  kind : RxKind
  deriving DecidableEq, Repr

/-- The level of the select cascade; at level 2 the three UID bytes of level 1 are held (R150). -/
inductive Cascade where
  | one
  | two (part : Bytes3)
  deriving DecidableEq, Repr

/-- The position inside the running command's rule (R25); `idle` when no command runs. -/
inductive Position where
  | idle
  /-- A payload command waits for its answer and will end with `Finish` for this many bytes (R126). -/
  | finish (bytes : Nat)
  /-- A command waits for an acknowledgement and will end with `FinishAck` (R126). -/
  | finishAck
  /-- PWD_AUTH waits for the password acknowledgement (R205). -/
  | pwdAuth
  /-- COMP_WRITE waits for the acknowledgement of phase 1; the 16 data bytes are held (R194). -/
  | compPhase1 (data : Bytes16)
  /-- Phase 1 is acknowledged and the data frame stands in the TX buffer (R194). -/
  | compPhase2
  /-- CONNECT: the anticollision request of this level (R150). -/
  | anticoll (level : Cascade)
  /-- CONNECT: the select of this level, after the four bytes `r[0..3]` were received (R150). -/
  | select (level : Cascade) (r : Bytes4)
  /-- CONNECT with `SelectProc` number `k`: the exchange it makes, after these answers (R150, log 12). -/
  | procedure (k : Nat) (ask : SelectAsk) (answers : List (Option (List Byte)))
  /-- READ_SETTINGS: the pages read so far; the next one is number `done.length` (R220). -/
  | readSettings (done : List Bytes4)
  /-- WRITE_SETTINGS: the record and the number of the page being written (R224). -/
  | writeSettings (record : Settings) (i : Nat)
  deriving DecidableEq, Repr

/-- One entry of the event history (R76): a transport call as it was made, a collision probe, or a command result. -/
inductive Event where
  | transmit (f : Frame)
  | transmitCrc (f : Frame)
  | receive (bits : Nat)
  | receiveCrc (bits : Nat)
  | probe
  | result (r : Result)
  deriving DecidableEq, Repr

/-- The transport's answers that are ready, in the order of the calls that will get them, and the counter from which an
answer that is not listed is drawn as a free value. The model's own inputs (R43, log 6). -/
structure Env where
  sent : List Bool
  rx : List Answer
  probe : List Bool
  tick : Nat
  deriving DecidableEq, Repr

/-- The Device Session (R20) with the registers the spec names, the sequencing state of R25, and the model's inputs. -/
structure State where
  /-- Whether an ATTACH has ever succeeded (R270). -/
  attached : Bool
  /-- `VARIANT` (R21). -/
  variant : Variant
  /-- `TRANSPORT`, with `crc16` (R22). -/
  transport : Transport
  /-- `CRC_MODE` (R22). -/
  crcMode : CrcMode
  /-- `STATE` (R26). -/
  session : Session
  /-- `UID[0..6]` (R24). -/
  uid : Uid
  /-- `SETTINGS` (R33). -/
  settings : Settings
  /-- `RESULT` (R30). -/
  result : Result
  /-- `RXBUF` (R31); empty when the host may read nothing (V15, log 13). -/
  rxbuf : List Byte
  /-- `RXLEN` (R31). -/
  rxlen : Nat
  /-- `FAULT` (R32). -/
  fault : Option FaultKind
  /-- The TX frame buffer (R59): the next frame of a running command. -/
  txbuf : Option Frame
  /-- The position inside the running command (R25). -/
  position : Position
  /-- The outstanding receive (R52). -/
  await : Option Await
  /-- The command port: host commands not yet taken (R295; log 7, log 8). -/
  cmd : List Frame
  /-- The transport's answers (R43, log 6). -/
  env : Env
  /-- The event history, newest first (R76, log 15). -/
  events : List Event
  /-- The open parameters (R6, log 9); no step writes them. -/
  params : Params
  deriving DecidableEq, Repr

/-- Why the machine stops. Both are events that no transport and no run can bring about; both are safe. -/
inductive Fault where
  /-- Raised by `step` when an answer of the transport announces more bits than its buffer holds: not an answer a
  receive primitive gives ("n bits in `buffer`", R52). Safe: no hardware run meets it. Log 17. -/
  | shortAnswer
  /-- Raised by `step` when the TX buffer holds bits that are no frame. Safe: only the engine writes the TX buffer, and
  it writes frames of R84 to R92. Log 17. -/
  | badTxBuffer
  deriving DecidableEq, Repr

/-- Why a step has no meaning: the spec's `refuse` (R7). All are safe. -/
inductive Refusal where
  /-- An instruction without a meaning yet; raised only by `exec`. Safe. -/
  | notModelled (mnemonic : String)
  /-- A command other than ATTACH on a faulted session, raised by every command (R250). Safe. -/
  | sessionFaulted (kind : FaultKind)
  /-- A command other than ATTACH before the first ATTACH, raised by every command (R270). Safe. -/
  | notAttached
  /-- A command while another command of the session runs, raised by every command (R280). Safe. -/
  | commandRunning
  /-- `detect_collision()` answered true during CONNECT (R150). Safe. -/
  | collision
  /-- A response when no receive is outstanding: the engine reads the transport only through a receive it made (R52,
  R256). Raised by the nine response rows. Safe. -/
  | noReceiveOutstanding
  /-- The data frame of COMP_WRITE without an acknowledged phase 1 (R194). Raised by COMP_WRITE.P2. Safe. -/
  | noPhaseOne
  /-- Bits on the command port that are no host command (R98, D2); raised by `step`. Safe. -/
  | notACommand (why : DecodeError)
  deriving DecidableEq, Repr

/-- The engine has no memory but its two buffers (R59). Their form: `RXBUF` holds exactly `RXLEN` bytes (R31), and
what stands in the TX buffer is a frame of R7 (log 22). -/
def Memory.wf (s : State) : Bool :=
  decide (s.rxlen = s.rxbuf.length) && (match s.txbuf with | none => true | some f => f.wf)

/-- An environment that has no answer ready: every answer is a free value (log 6). -/
def Env.silent : Env := ⟨[], [], [], 0⟩

/-- Reset is session creation (R41, R270): every register at the value of R41's table. The ATTACH arguments (variant A,
the raw pair with CRC_A, `SW`) are a DESIGN CHOICE (log 1); the values the spec itself marks as its choice are in log 2
and log 3. -/
def State.reset : State where
  attached := true
  variant := .a
  transport := ⟨true, true, false, false, some .crcA⟩
  crcMode := .sw
  session := .idle
  uid := ⟨⟨0, 0, 0⟩, ⟨0, 0, 0, 0⟩⟩
  settings := Settings.default
  result := .code .ack
  rxbuf := []
  rxlen := 0
  fault := none
  txbuf := none
  position := .idle
  await := none
  cmd := []
  env := Env.silent
  events := []
  params := Params.default

/-- The engine before its first ATTACH (R270): only ATTACH is accepted. The other fields hold the reset values, which no
accepted command reads. -/
def State.unattached : State := { State.reset with attached := false }

end Sys2Proof.Machine
end

