-- ==== Sys2Proof/Machine/Flags.lean ====
section
/-! DEFINITION. The read-only views of STATE that the source calls flags (spec/10_state.md rules R27 to R29), the
numeric views of result codes (rules R39, R40), and the view of RXBUF as a Version Record (rule R172). -/

namespace Sys2Proof.Machine

/-- STATE is Selected or Authenticated. -/
def Session.isConnected : Session → Bool
  | .selected => true
  | .authenticated => true
  | _ => false

/-- `CONNECTED` (R27). -/
def State.connected (s : State) : Bool := s.session.isConnected

/-- `AWAKE` (R28). No rule gates on it. -/
def State.awake (s : State) : Bool := decide (s.session = .requested) || s.session.isConnected

/-- `AUTHENTICATED` (R29). -/
def State.authenticated (s : State) : Bool := decide (s.session = .authenticated)

/-- The Version Record in the payload of a successful GET_VERSION, `RXBUF[0..7]` (R37, R172); no step reads it. -/
def State.version (s : State) : Option VersionRecord :=
  match s.rxbuf with
  | [b0, b1, b2, b3, b4, b5, b6, b7] => some ⟨b0, b1, b2, b3, b4, b5, b6, b7⟩
  | _ => none

/-- The 4-bit wire value of an Acknowledgement Code (R39). -/
def codeBits : AckCode → BitVec 4
  | .ack => 0xA
  | .nakArgument => 0x0
  | .nakCrc => 0x1
  | .nakAuthOverflow => 0x4
  | .nakWriteError => 0x5
  | .nakTimeout => 0xF
  | .nakDisconnected => 0xC

/-- The number of a result where one is needed: the wire value, and 0xE for AUTH_MISMATCH (R40, D5). -/
def resultBits : Result → BitVec 4
  | .code c => codeBits c
  | .authMismatch => 0xE

/-- `NOISE_CODE` as a code; it is never ACK (R120, D15). -/
def noiseCode : NoiseCode → AckCode
  | .argument => .nakArgument
  | .crc => .nakCrc
  | .authOverflow => .nakAuthOverflow
  | .writeError => .nakWriteError
  | .timeout => .nakTimeout
  | .disconnected => .nakDisconnected

end Sys2Proof.Machine
end

