-- ==== Sys2Proof/Machine/Operands.lean ====
section
/-! DEFINITION. Operand assembly (spec/30_encoding.md rule R97): the computed quantities, the payloads of the frames
that macros send, and the receives each command makes (rules R67, R95). -/

namespace Sys2Proof.Machine

/-- The NVB byte of an anticollision request (R92, PRESUMED: the spec's passage from general knowledge, log 12). -/
def nvbAnticoll : Byte := 0x20

/-- The NVB byte of a select with five bytes (R92, PRESUMED, log 12). -/
def nvbSelect : Byte := 0x70

/-- The cascade tag (R150, PRESUMED, log 12). -/
def cascadeTag : Byte := 0x88

/-- The variant an operand byte of ATTACH names (R21, R140; the numbers are the model's, log 7). -/
def variantOf (v : Byte) : Option Variant :=
  if v = 0 then some .a else if v = 1 then some .b else if v = 2 then some .c else none

/-- The pages of a FAST_READ, over natural numbers (R97 (a), R176). -/
def pageCount (start stop : Byte) : Nat := stop.toNat - start.toNat + 1

/-- `base + i`, the index of settings page `i` (R97 (b), R230). -/
def settingsPage (v : Variant) (i : Nat) : Byte := cfgBase v + BitVec.ofNat 8 i

/-- The opcode of a cascade level (R81, R150). -/
def selectOpcode : Cascade → Byte
  | .one => Opcode.selectL1
  | .two _ => Opcode.selectL2

/-- The anticollision request of a level (R150). -/
def anticollFrame (l : Cascade) : Frame := Frame.ofBytes [selectOpcode l, nvbAnticoll]

/-- The select frame of a level: the four bytes and their check byte (R150). -/
def selectFrame (l : Cascade) (r : Bytes4) (check : Byte) : Frame :=
  Frame.ofBytes ([selectOpcode l, nvbSelect] ++ r.toList ++ [check])

/-- The select frame of an exchange of a procedure (R92, R146, R148). -/
def selectAskFrame (ask : SelectAsk) : Frame :=
  Frame.ofBytes ([match ask.level with | .one => Opcode.selectL1 | .two => Opcode.selectL2, ask.nvb]
    ++ ask.uidPart.val)

/-- The READ frame of settings page `i` (R220). -/
def settingsReadFrame (v : Variant) (i : Nat) : Frame := Frame.ofBytes [Opcode.read, settingsPage v i]

/-- The WRITE frame of settings page `i` (R224). -/
def settingsWriteFrame (v : Variant) (image : Bytes16) (i : Nat) : Frame :=
  Frame.ofBytes ([Opcode.write, settingsPage v i] ++ (pageOf image i).toList)

/-- A receive of `bits` payload bits with CRC (R95). -/
def awaitPayload (bits : Nat) : Await := ⟨bits, true, .payload⟩

/-- A receive of `bits` payload bits without CRC (R95: REQUEST, WAKEUP; R150: the anticollision answer). -/
def awaitPlain (bits : Nat) : Await := ⟨bits, false, .payload⟩

/-- An acknowledgement-only receive: 4 bits, no CRC (R120, R189). -/
def awaitAck : Await := ⟨4, false, .ackOnly⟩

/-- The receive of an exchange of a procedure: for a payload, of the bits and with the CRC it asks for (R120, R150). -/
def selectAskAwait (ask : SelectAsk) : Await := ⟨ask.rxBits, ask.rxCrc, .payload⟩

end Sys2Proof.Machine
end

