-- ==== Sys2Proof/Machine/Ops.lean ====
section
/-! DEFINITION. The named operations on the state, and the primitives every command is built from
(spec/40_primitives.md): the fault check and the gate, TxFrame, the receive call and RxFrame, Finish and FinishAck,
raise Fault. A command that waits for the transport is held in `position` and `await` (log 4). -/

namespace Sys2Proof.Machine

/-- What a step or a meaning answers. -/
abbrev Out := Host.Outcome State Fault Refusal

/-! ### Updates of the state -/

/-- Add an event to the history (R76). -/
def State.record (e : Event) (s : State) : State := { s with events := e :: s.events }

/-- `STATE <- x` (R26). -/
def State.setSession (x : Session) (s : State) : State := { s with session := x }

/-- `UID[0..6] <- u` (R24). -/
def State.setUid (u : Uid) (s : State) : State := { s with uid := u }

/-- `SETTINGS <- r` (R33). -/
def State.setSettings (r : Settings) (s : State) : State := { s with settings := r }

/-- `FAULT <- None`, which only ATTACH does (R32). -/
def State.clearFault (s : State) : State := { s with fault := none }

/-- The running command goes on at `p` (R25). -/
def State.goto (p : Position) (s : State) : State := { s with position := p }

/-- The next frame of the running command is put into the TX buffer (R59). -/
def State.load (f : Frame) (s : State) : State := { s with txbuf := some f }

/-- The frame in the TX buffer is taken. -/
def State.unload (s : State) : State := { s with txbuf := none }

/-- The head of the command port is taken. -/
def State.takeCmd (s : State) : State := { s with cmd := s.cmd.tail }

/-- A receive becomes outstanding (R52). -/
def State.arm (a : Await) (s : State) : State := { s with await := some a }

/-- The outstanding receive has returned. -/
def State.disarm (s : State) : State := { s with await := none }

/-- The end of a command (R126, R30, R31): `RESULT`, `RXBUF`, `RXLEN`, the result event, and no command runs. -/
def State.complete (r : Result) (payload : List Byte) (s : State) : State :=
  { s with
    result := r
    rxbuf := payload
    rxlen := payload.length
    txbuf := none
    position := .idle
    await := none
    events := .result r :: s.events }

/-- `raise Fault(k)` on the state (R250): `FAULT <- k` if it was None, the running command stops, and nothing else is
written. -/
def State.raised (k : FaultKind) (s : State) : State :=
  { s with
    fault := match s.fault with | none => some k | some first => some first
    txbuf := none
    position := .idle
    await := none }

/-- Session creation (R41, R140): every register to its value of R41's table. -/
def State.create (v : Variant) (t : Transport) (m : CrcMode) (s : State) : State :=
  { s with
    attached := true
    variant := v
    transport := t
    crcMode := m
    session := .idle
    uid := State.reset.uid
    settings := Settings.default
    result := .code .ack
    rxbuf := []
    rxlen := 0
    fault := none
    txbuf := none
    position := .idle
    await := none
    events := .result (.code .ack) :: s.events }

/-! ### The transport's answers (R51, R52, R56; log 6) -/

/-- The answer to a transmit: the next listed one, else a free value. -/
def State.sentAll (s : State) : Bool :=
  match s.env.sent with
  | b :: _ => b
  | [] => Config.freeSentAll s.env.tick

/-- That answer is used up. -/
def State.afterSent (s : State) : State :=
  { s with
    env := match s.env.sent with
      | _ :: rest => { s.env with sent := rest }
      | [] => { s.env with tick := s.env.tick + 1 } }

/-- The answer to a collision probe: the next listed one, else a free value. -/
def State.collides (s : State) : Bool :=
  match s.env.probe with
  | b :: _ => b
  | [] => Config.freeCollision s.env.tick

/-- That answer is used up. -/
def State.afterProbe (s : State) : State :=
  { s with
    env := match s.env.probe with
      | _ :: rest => { s.env with probe := rest }
      | [] => { s.env with tick := s.env.tick + 1 } }

/-- The free answer number `t` to a receive: any bit count, with that many bits in the buffer (R52). -/
def freeAnswer (t : Nat) : Answer :=
  ⟨Config.freeRxBits t, (List.range ((Config.freeRxBits t + 7) / 8)).map (Config.freeRxByte t), Config.freeCrcOk t⟩

/-- The answer to a receive: the next listed one, else a free value. -/
def State.answer (s : State) : Answer :=
  match s.env.rx with
  | a :: _ => a
  | [] => freeAnswer s.env.tick

/-- That answer is used up. -/
def State.afterAnswer (s : State) : State :=
  { s with
    env := match s.env.rx with
      | _ :: rest => { s.env with rx := rest }
      | [] => { s.env with tick := s.env.tick + 1 } }

/-! ### Ends of a command -/

/-- `raise Fault(k)`: the fault path is a next state whose FAULT is set (R250, log 5). -/
def raise (k : FaultKind) (s : State) : Out := .next (s.raised k)

/-- `FinishAck(code)` (R126). -/
def finishAck (code : AckCode) (s : State) : Out := .next (s.complete (.code code) [])

/-- `Finish(code, payload, Pbytes)` (R126). -/
def finish (code : AckCode) (payload : Option (List Byte)) (bytes : Nat) (s : State) : Out :=
  if code = .ack then
    match payload with
    | some p => if p.length = bytes then .next (s.complete (.code .ack) p) else raise .rxLength s
    | none => raise .rxLength s
  else finishAck code s

/-! ### The select procedure (R150) -/

/-- Go on after a collision probe that answers false; a detected collision has no meaning (R56, R150). -/
def probeFirst (s : State) (body : State → Out) : Out :=
  if (s.record .probe).collides then .refused .collision else body (s.record .probe).afterProbe

/-- CONNECT is complete: the whole UID is written at once, STATE becomes Selected, the result is ACK (R150). -/
def captureUid (u : Uid) (s : State) : Out := finishAck .ack ((s.setUid u).setSession .selected)

/-- CONNECT with `SelectProc` number `k` does what the procedure says after these answers (R150, log 12). -/
def followProcedure (k : Nat) (answers : List (Option (List Byte))) (s : State) : Out :=
  match Config.customSelect k answers with
  | .malformed => raise .selectMalformed s
  | .send ask => .next ((s.goto (.procedure k ask answers)).load (selectAskFrame ask))
  | .done u => captureUid u s

/-! ### Acceptance of a command -/

/-- Whether the engine is free for the host, or stands where the running command's own next frame is due: no receive is
outstanding and `own` holds of the position. -/
def State.ready (own : Position → Bool) (s : State) : Bool := s.await.isNone && own s.position

/-- No command runs. -/
def Position.isIdle : Position → Bool
  | .idle => true
  | _ => false

/-- The checks at the head of every command but ATTACH, in the order of R258: the fault check (R250), the session's
existence (R270), exclusive access (R280), and for a gated command `Gate()` (R124). -/
def accept (gated : Bool) (own : Position → Bool) (s : State) (body : State → Out) : Out :=
  match s.fault with
  | some k => .refused (.sessionFaulted k)
  | none =>
    if s.attached = false then .refused .notAttached
    else if s.ready own = false then .refused .commandRunning
    else if gated = true ∧ s.connected = false then finishAck .nakDisconnected s
    else body s

/-- A command whose data operand is absent (R190, R251 `BUF_EMPTY`, D33): all such commands are gated, and the operand
check comes after the gate (R258). -/
def absentOperand (s : State) : Out := accept true Position.isIdle s (raise .bufEmpty)

/-! ### Frame transmit (R116) -/

/-- What a primitive answers: it goes on, or it has raised a fault. -/
inductive Call where
  | ok (s : State)
  | raised (k : FaultKind) (s : State)

/-- Go on after a primitive, or take its fault. -/
def Call.andThen (c : Call) (body : State → Out) : Out :=
  match c with
  | .ok s => body s
  | .raised k s => raise k s

/-- The session's `crc16` (R55); a free function where none is attached (log 10). -/
def State.crc16 (s : State) : List Byte → Word16 :=
  match s.transport.crc16 with
  | some f => crcOf f
  | none => Config.absentCrc

/-- The transport call a frame makes (R116): raw without CRC, the with-CRC primitive in `HW` mode, raw with the
trailer appended in `SW` mode. -/
def State.txCall (s : State) (b : List Byte) (n : Nat) (crc : Bool) : Event :=
  if crc then
    match s.crcMode with
    | .hw => .transmitCrc ⟨b, n⟩
    | .sw => .transmit ⟨crcAppend s.crc16 b, n + 16⟩
  else .transmit ⟨b, n⟩

/-- `TxFrame(b, n, crc)` (R116). -/
def txFrame (s : State) (b : List Byte) (n : Nat) (crc : Bool) : Call :=
  if n = 0 then .raised .bufEmpty s
  else if crc = true ∧ n % 8 ≠ 0 then .raised .crcUnaligned s
  else if s.sentAll then .ok (s.record (s.txCall b n crc)).afterSent
  else .raised .txIncomplete (s.record (s.txCall b n crc)).afterSent

/-! ### Receive (R120) -/

/-- The transport call a receive makes (R120): `P` bits with the with-CRC primitive, else `P`, plus 16 for the trailer
the engine checks itself. -/
def State.rxCall (s : State) (a : Await) : Event :=
  if a.crc then
    match s.crcMode with
    | .hw => .receiveCrc a.bits
    | .sw => .receive (a.bits + 16)
  else .receive a.bits

/-- The call part of `RxFrame`: the alignment check, then the receive is outstanding (R115, R120). -/
def callReceive (s : State) (a : Await) : Call :=
  if a.crc = true ∧ a.bits % 8 ≠ 0 then .raised .crcUnaligned s
  else .ok ((s.record (s.rxCall a)).arm a)

/-- One exchange up to its receive: send the frame, apply `after` (the writes a rule makes between transmit and
receive), call the receive, and wait at `next`. -/
def exchange (b : List Byte) (n : Nat) (crc : Bool) (after : State → State) (a : Await) (next : Position)
    (s : State) : Out :=
  (txFrame s b n crc).andThen fun s1 =>
    (callReceive (after s1) a).andThen fun s2 => .next (s2.goto next)

/-- What arrived at a receive (R93). -/
inductive Response where
  | timeout
  | short (code : AckCode)
  | full (bytes : List Byte) (crcOk : Bool)
  deriving DecidableEq, Repr

/-- What `RxFrame` returns: the state (STATE written on a zero-bit receive only), the code, and the payload. -/
structure Received where
  state : State
  code : AckCode
  payload : Option (List Byte)

/-- The decoding part of `RxFrame` (R120), in its order: zero bits, the short frame, noise on an acknowledgement-only
receive, a payload without CRC, the check of the with-CRC primitive, the engine's own check. -/
def rxFrame (s : State) (a : Await) (r : Response) : Received :=
  match r with
  | .timeout => ⟨s.setSession .disconnected, .nakTimeout, none⟩
  | .short c => ⟨s, c, none⟩
  | .full b ok =>
    match a.kind with
    | .ackOnly => ⟨s, noiseCode s.params.noise, none⟩
    | .payload =>
      if a.crc = false then ⟨s, .ack, some b⟩
      else
        match s.crcMode with
        | .hw => if ok then ⟨s, .ack, some b⟩ else ⟨s, .nakCrc, none⟩
        | .sw =>
          match crcCheck s.crc16 b with
          | some p => ⟨s, .ack, some p⟩
          | none => ⟨s, .nakCrc, none⟩

end Sys2Proof.Machine
end

