-- ==== Sys2Proof/Machine/Auth.lean ====
section
/-! DEFINITION. The authentication command (spec/44_auth_commands.md): PWD_AUTH up to its receive. -/

namespace Sys2Proof.Machine

/-- PWD_AUTH (R205): gated; the four operand bytes in index order; two bytes with CRC are expected. The password is not
stored. -/
def execPwdAuth (pwd : Bytes4) (s : State) : Out :=
  accept true Position.isIdle s
    (exchange (Opcode.pwdAuth :: pwd.toList) 40 true id (awaitPayload 16) .pwdAuth)

end Sys2Proof.Machine
end

