-- ==== Sys2Proof/Machine/Reads.lean ====
section
/-! DEFINITION. The read commands (spec/42_read_commands.md): GET_VERSION, READ, FAST_READ, READ_CNT, READ_SIG. All are
gated, send one frame with CRC and make one receive with CRC for a payload (rule R169); `Finish` is done by `resume`. -/

namespace Sys2Proof.Machine

/-- The common pipeline of R169: gate, frame with CRC, receive with CRC of `bits`, then `Finish` for `bits / 8`. -/
def readExchange (b : List Byte) (n bits : Nat) (s : State) : Out :=
  exchange b n true id (awaitPayload bits) (.finish (bits / 8)) s

/-- GET_VERSION (R170). -/
def execGetVersion (s : State) : Out :=
  accept true Position.isIdle s (readExchange [Opcode.getVersion] 8 64)

/-- The positions at which a READ frame is due, or no command runs. -/
def Position.ownsRead : Position → Bool
  | .idle => true
  | .readSettings _ => true
  | _ => false

/-- READ (R174), by the host or as an iteration of READ_SETTINGS (R220), whose position it keeps. -/
def execRead (page : Byte) (s : State) : Out :=
  accept true Position.ownsRead s fun s =>
    match s.position with
    | .idle => readExchange [Opcode.read, page] 16 128 s
    | _ => exchange [Opcode.read, page] 16 true id (awaitPayload 128) s.position s

/-- FAST_READ (R176): `stop < start` is ARG_RANGE, after the gate and before any transport call. -/
def execFastRead (start stop : Byte) (s : State) : Out :=
  accept true Position.isIdle s fun s =>
    if stop.toNat < start.toNat then raise .argRange s
    else readExchange [Opcode.fastRead, start, stop] 24 (pageCount start stop * 32) s

/-- READ_CNT (R178): `P_CNT_BITS` bits. -/
def execReadCnt (index : Byte) (s : State) : Out :=
  accept true Position.isIdle s fun s => readExchange [Opcode.readCnt, index] 16 s.params.cntBits s

/-- READ_SIG (R180): `P_SIG_BITS` bits; the second byte is always 0x00. -/
def execReadSig (s : State) : Out :=
  accept true Position.isIdle s fun s => readExchange [Opcode.readSig, 0] 16 s.params.sigBits s

end Sys2Proof.Machine
end

