-- ==== Sys2Proof/Machine/Responses.lean ====
section
/-! DEFINITION. The response rows: an answer arrives at the outstanding receive, `RxFrame` decodes it
(spec/40_primitives.md rules R118, R120), and the command that waits goes on from its position with the code and the
payload. `resume` holds, for every command, the part of its rule that follows a receive. -/

namespace Sys2Proof.Machine

/-- PWD_AUTH after its receive (R205): success needs the decoder's ACK and the two expected bytes; every other
combination is a failure, which drops Authenticated to Selected (D12). -/
def resumePwdAuth (code : AckCode) (payload : Option (List Byte)) (s : State) : Out :=
  if code = .ack ∧ payload = some s.settings.pack.toList then
    .next ((s.setSession .authenticated).complete (.code .ack) s.settings.pack.toList)
  else
    .next ((if s.session = .authenticated then s.setSession .selected else s).complete
      (if code = .ack then .authMismatch else .code code) [])

/-- COMP_WRITE after the acknowledgement of phase 1 (R194): phase 2 follows if and only if it is ACK. -/
def resumeCompPhase1 (data : Bytes16) (code : AckCode) (s : State) : Out :=
  if code = .ack then .next ((s.goto .compPhase2).load (Frame.ofBytes data.toList))
  else finishAck code s

/-- Whether the check byte of an anticollision answer is the XOR of the four bytes (R150). -/
def checkByteOk (r : Bytes4) (check : Byte) : Bool :=
  decide (r.b0 ^^^ r.b1 ^^^ r.b2 ^^^ r.b3 = check)

/-- Whether the first byte is the one expected at this level: the cascade tag at level 1, any at level 2 (R150). -/
def cascadeOk : Cascade → Byte → Bool
  | .one, b => decide (b = cascadeTag)
  | .two _, _ => true

/-- CONNECT after an anticollision answer was accepted by the collision probe (R150). -/
def acceptAnticoll (l : Cascade) (payload : Option (List Byte)) (s : State) : Out :=
  match payload with
  | some [r0, r1, r2, r3, check] =>
    if checkByteOk ⟨r0, r1, r2, r3⟩ check && cascadeOk l r0 then
      .next ((s.goto (.select l ⟨r0, r1, r2, r3⟩)).load (selectFrame l ⟨r0, r1, r2, r3⟩ check))
    else raise .selectMalformed s
  | _ => raise .selectMalformed s

/-- CONNECT after an anticollision receive (R150): a code other than ACK ends it; a detected collision has no meaning. -/
def resumeAnticoll (l : Cascade) (code : AckCode) (payload : Option (List Byte)) (s : State) : Out :=
  if code = .ack then probeFirst s (acceptAnticoll l payload) else finishAck code s

/-- Whether the "UID not complete" bit of the select acknowledge is as the level demands: 1 at level 1, 0 at level 2
(R150). -/
def sakOk : Cascade → Byte → Bool
  | .one, sak => sak.getLsbD 2
  | .two _, sak => !sak.getLsbD 2

/-- CONNECT after a select was acknowledged as its level demands (R150): level 1 goes on to level 2 with its last three
bytes; level 2 ends the command, the whole UID written at once. -/
def advanceSelect (r : Bytes4) (s : State) : Cascade → Out
  | .one =>
    .next ((s.goto (.anticoll (.two ⟨r.b1, r.b2, r.b3⟩))).load (anticollFrame (.two ⟨r.b1, r.b2, r.b3⟩)))
  | .two part => captureUid ⟨part, r⟩ s

/-- CONNECT after a select receive (R150). -/
def resumeSelect (l : Cascade) (r : Bytes4) (code : AckCode) (payload : Option (List Byte)) (s : State) : Out :=
  if code = .ack then
    match payload with
    | some [sak] => if sakOk l sak then advanceSelect r s l else raise .selectMalformed s
    | _ => raise .selectMalformed s
  else finishAck code s

/-- CONNECT with another `SelectProc`, after a receive (R150): a code other than ACK ends it; else the procedure goes on
with the answer, after the collision probe where its exchange asks for one. -/
def resumeProcedure (k : Nat) (ask : SelectAsk) (answers : List (Option (List Byte))) (code : AckCode)
    (payload : Option (List Byte)) (s : State) : Out :=
  if code = .ack then
    if ask.probe then probeFirst s (followProcedure k (answers ++ [payload]))
    else followProcedure k (answers ++ [payload]) s
  else finishAck code s

/-- READ_SETTINGS after page number `done.length` was read (R220): after the fourth page SETTINGS is replaced, before it
the next READ is due. -/
def collectPage (done : List Bytes4) (page : Bytes4) (s : State) : Out :=
  match done with
  | [p0, p1, p2] =>
    .next ((s.setSettings (unpack s.params.codec ⟨p0, p1, p2, page⟩)).complete (.code .ack)
      (Bytes16.toList ⟨p0, p1, p2, page⟩))
  | _ =>
    .next ((s.goto (.readSettings (done ++ [page]))).load (settingsReadFrame s.variant (done.length + 1)))

/-- READ_SETTINGS after a receive (R220): bytes 0 to 3 of a 16-byte payload are the page. -/
def resumeReadSettings (done : List Bytes4) (code : AckCode) (payload : Option (List Byte)) (s : State) : Out :=
  if code = .ack then
    match payload with
    | some (d0 :: d1 :: d2 :: d3 :: rest) =>
      if rest.length = 12 then collectPage done ⟨d0, d1, d2, d3⟩ s else raise .rxLength s
    | _ => raise .rxLength s
  else finishAck code s

/-- WRITE_SETTINGS after the acknowledgement of page `i` (R224): SETTINGS is replaced after the fourth. -/
def resumeWriteSettings (r : Settings) (i : Nat) (code : AckCode) (s : State) : Out :=
  if code = .ack then
    if 3 ≤ i then finishAck .ack (s.setSettings r)
    else
      .next ((s.goto (.writeSettings r (i + 1))).load
        (settingsWriteFrame s.variant (pack s.params.codec r) (i + 1)))
  else finishAck code s

/-- The waiting command goes on. A position at which no command waits for a receive has none outstanding. -/
def resume (code : AckCode) (payload : Option (List Byte)) (s : State) : Out :=
  match s.position with
  | .idle => .refused .noReceiveOutstanding
  | .finish bytes => finish code payload bytes s
  | .finishAck => finishAck code s
  | .pwdAuth => resumePwdAuth code payload s
  | .compPhase1 data => resumeCompPhase1 data code s
  | .compPhase2 => .refused .noReceiveOutstanding
  | .anticoll l => resumeAnticoll l code payload s
  | .select l r => resumeSelect l r code payload s
  | .procedure k ask answers => resumeProcedure k ask answers code payload s
  | .readSettings done => resumeReadSettings done code payload s
  | .writeSettings r i => resumeWriteSettings r i code s

/-- A response arrives: it belongs to the outstanding receive, which it ends. -/
def respond (r : Response) (s : State) : Out :=
  match s.await with
  | none => .refused .noReceiveOutstanding
  | some a =>
    let d := rxFrame s.disarm a r
    resume d.code d.payload d.state

/-- ACK, 4-bit 0xA (R118, R248). -/
def execAck (s : State) : Out := respond (.short .ack) s

/-- NAK-argument, 4-bit 0x0 (R118, R248). -/
def execNakArgument (s : State) : Out := respond (.short .nakArgument) s

/-- NAK-CRC, 4-bit 0x1 (R118, R248). -/
def execNakCrc (s : State) : Out := respond (.short .nakCrc) s

/-- NAK-auth-overflow, 4-bit 0x4 (R118, R248). -/
def execNakAuthOverflow (s : State) : Out := respond (.short .nakAuthOverflow) s

/-- NAK-write-error, 4-bit 0x5 (R118, R248). -/
def execNakWriteError (s : State) : Out := respond (.short .nakWriteError) s

/-- NAK-timeout as a 4-bit value, 0xF: a code, no change of STATE (R118, D19). -/
def execNakTimeout (s : State) : Out := respond (.short .nakTimeout) s

/-- NAK-disconnected as a 4-bit value, 0xC: a code, no change of STATE (R118, D19). -/
def execNakDisconnected (s : State) : Out := respond (.short .nakDisconnected) s

/-- PAYLOAD, a response of whole bytes (R120 cases 3 and 4). -/
def execPayload (bytes : List Byte) (crcOk : Bool) (s : State) : Out := respond (.full bytes crcOk) s

/-- TIMEOUT, a zero-bit receive: STATE becomes Disconnected and the command gets NAK-timeout (R120, R158, R249). -/
def execTimeout (s : State) : Out := respond .timeout s

end Sys2Proof.Machine
end

