-- ==== Sys2Proof/Machine/SessionCmds.lean ====
section
/-! DEFINITION. The session commands (spec/41_session_commands.md): ATTACH, REQUEST, WAKEUP, SELECT_L1, SELECT_L2,
CONNECT, HALT, DISCONNECT, DESTROY, each up to its first receive; what follows a receive is `resume`. -/

namespace Sys2Proof.Machine

/-- The capability a variant and a transport lack, in the order of R140's checks. -/
def attachFault (variant : Option Variant) (t : Transport) (m : CrcMode) : Option FaultKind :=
  if variant = none then some .badVariant
  else if t.transmit = false ∨ t.receive = false then some .noTransport
  else if m = .hw ∧ (t.transmitCrc = false ∨ t.receiveCrc = false) then some .noCrcCapability
  else if m = .sw ∧ t.crc16 = none then some .noCrcCapability
  else none

/-- ATTACH (R140): accepted on a faulted session and before the first ATTACH too; refused only while a command runs
(R280). FAULT is cleared before the checks. -/
def execAttach (variant : Byte) (t : Transport) (m : CrcMode) (s : State) : Out :=
  if s.ready Position.isIdle = false then .refused .commandRunning
  else
    match attachFault (variantOf variant) t m, variantOf variant with
    | none, some v => .next (s.create v t m)
    | some k, _ => raise k s.clearFault
    | none, none => raise .badVariant s.clearFault

/-- The common form of REQUEST and WAKEUP (R142, R144): not gated; STATE becomes Requested between transmit and
receive (D8, C12); the answer has `ATQA_BITS` bits and no CRC (D7). DESIGN CHOICE, unsafe there: the expected bytes are
`ATQA_BITS / 8` rounded down where `ATQA_BITS` is no multiple of 8, which the spec leaves open (R130: exact when used; D7;
log 9). -/
def probeTag (b : List Byte) (n : Nat) (crc : Bool) (s : State) : Out :=
  accept false Position.isIdle s fun s =>
    exchange b n crc (State.setSession .requested) (awaitPlain s.params.atqaBits)
      (.finish (s.params.atqaBits / 8)) s

/-- REQUEST (R142): the 7-bit frame, without CRC (R83). -/
def execRequest (s : State) : Out := probeTag [Opcode.request] 7 false s

/-- WAKEUP (R144): 8 bits with CRC. -/
def execWakeup (s : State) : Out := probeTag [Opcode.wakeup] 8 true s

/-- The positions at which a select frame is due, or no command runs. -/
def Position.ownsSelect : Position → Bool
  | .idle => true
  | .anticoll _ => true
  | .select _ _ => true
  | .procedure _ _ _ => true
  | _ => false

/-- A select frame (R146, R148). Within CONNECT the receive of R150 follows: 40 bits without CRC after an anticollision
request (sent with CRC as the parameter TXCRC says), 8 bits with CRC after a select; with another `SelectProc`, CRC and
receive are those of its exchange. Outside CONNECT the frame is sent
and nothing else happens ("no state written", R146); no host command does that (R146, log 18). -/
def sendSelect (op nvb : Byte) (u : List Byte) (s : State) : Out :=
  accept false Position.ownsSelect s fun s =>
    match s.position with
    | .anticoll _ =>
      exchange ([op, nvb] ++ u) (16 + 8 * u.length) s.params.anticollCrc id (awaitPlain 40) s.position s
    | .select _ _ =>
      exchange ([op, nvb] ++ u) (16 + 8 * u.length) true id (awaitPayload 8) s.position s
    | .procedure _ ask _ =>
      exchange ([op, nvb] ++ u) (16 + 8 * u.length) ask.txCrc id (selectAskAwait ask) s.position s
    | _ => (txFrame s ([op, nvb] ++ u) (16 + 8 * u.length) true).andThen .next

/-- SELECT_L1 (R146). -/
def execSelectL1 (nvb : Byte) (u : List Byte) (s : State) : Out := sendSelect Opcode.selectL1 nvb u s

/-- SELECT_L2 (R148). -/
def execSelectL2 (nvb : Byte) (u : List Byte) (s : State) : Out := sendSelect Opcode.selectL2 nvb u s

/-- CONNECT (R150): not gated; only in Requested, else SEQ_VIOLATION (D10); it starts the procedure that the parameter
`SelectProc` names: the default one with the level-1 anticollision request. -/
def execConnect (s : State) : Out :=
  accept false Position.isIdle s fun s =>
    if s.session = .requested then
      match s.params.selectProc with
      | .standard => .next ((s.goto (.anticoll .one)).load (anticollFrame .one))
      | .custom k => followProcedure k [] s
    else raise .seqViolation s

/-- HALT (R152): gated; no receive follows (D9). -/
def execHalt (s : State) : Out :=
  accept true Position.isIdle s fun s =>
    (txFrame s [Opcode.halt] 8 true).andThen fun s => finishAck .ack (s.setSession .halted)

/-- DISCONNECT (R154): not gated, no frame (D21). -/
def execDisconnect (s : State) : Out :=
  accept false Position.isIdle s fun s => finishAck .ack (s.setSession .disconnected)

/-- DESTROY (R156): the id cleared, default settings, STATE Idle (D22); not gated, no frame. -/
def execDestroy (s : State) : Out :=
  accept false Position.isIdle s fun s =>
    finishAck .ack (((s.setUid State.reset.uid).setSettings Settings.default).setSession .idle)

end Sys2Proof.Machine
end

