-- ==== Sys2Proof/Machine/SettingsCmds.lean ====
section
/-! DEFINITION. The settings macro-commands (spec/45_settings_commands.md): each puts the first frame of its expansion
into the TX buffer; the frames themselves are READ and WRITE, and what follows each answer is `resume`. -/

namespace Sys2Proof.Machine

/-- READ_SETTINGS (R220): gated; four READs of pages `CFG_BASE + 0 .. 3`. -/
def execReadSettings (s : State) : Out :=
  accept true Position.isIdle s fun s =>
    .next ((s.goto (.readSettings [])).load (settingsReadFrame s.variant 0))

/-- WRITE_SETTINGS (R224): gated; four WRITEs of the packed operand record. -/
def execWriteSettings (r : Settings) (s : State) : Out :=
  accept true Position.isIdle s fun s =>
    .next ((s.goto (.writeSettings r 0)).load (settingsWriteFrame s.variant (pack s.params.codec r) 0))

end Sys2Proof.Machine
end

