-- ==== Sys2Proof/Machine/Writes.lean ====
section
/-! DEFINITION. The write commands (spec/43_write_commands.md): WRITE and the two phases of COMP_WRITE. Their receives
are acknowledgement-only (rule R189). -/

namespace Sys2Proof.Machine

/-- The positions at which a WRITE frame is due, or no command runs. -/
def Position.ownsWrite : Position → Bool
  | .idle => true
  | .writeSettings _ _ => true
  | _ => false

/-- WRITE (R190), by the host or as an iteration of WRITE_SETTINGS (R224), whose position it keeps. -/
def execWrite (page : Byte) (data : Bytes4) (s : State) : Out :=
  accept true Position.ownsWrite s fun s =>
    exchange ([Opcode.write, page] ++ data.toList) 48 true id awaitAck
      (if s.position = .idle then .finishAck else s.position) s

/-- COMP_WRITE, phase 1 (R194): the data bytes wait for the acknowledgement. -/
def execCompWriteP1 (page : Byte) (data : Bytes16) (s : State) : Out :=
  accept true Position.isIdle s (exchange [Opcode.compWrite, page] 16 true id awaitAck (.compPhase1 data))

/-- COMP_WRITE, phase 2 (R194): only after an acknowledged phase 1, whose gate holds for both. -/
def execCompWriteP2 (data : Bytes16) (s : State) : Out :=
  match s.fault with
  | some k => .refused (.sessionFaulted k)
  | none =>
    if s.position = .compPhase2 ∧ s.await = none then exchange data.toList 128 true id awaitAck .finishAck s
    else .refused .noPhaseOne

end Sys2Proof.Machine
end

