-- ==== Sys2Proof/Machine/Dispatch.lean ====
section
/-! DEFINITION. One arm for each instruction: one direct call of its meaning. -/

namespace Sys2Proof.Machine

def exec (i : Instr) (s : State) : Host.Outcome State Fault Refusal :=
  match i with
  | .request => Sys2Proof.Machine.execRequest s
  | .wakeup => Sys2Proof.Machine.execWakeup s
  | .halt => Sys2Proof.Machine.execHalt s
  | .getVersion => Sys2Proof.Machine.execGetVersion s
  | .read page => Sys2Proof.Machine.execRead page s
  | .fastRead start stop => Sys2Proof.Machine.execFastRead start stop s
  | .write page data => Sys2Proof.Machine.execWrite page data s
  | .compWriteP1 page data => Sys2Proof.Machine.execCompWriteP1 page data s
  | .compWriteP2 data => Sys2Proof.Machine.execCompWriteP2 data s
  | .readCnt index => Sys2Proof.Machine.execReadCnt index s
  | .pwdAuth pwd => Sys2Proof.Machine.execPwdAuth pwd s
  | .readSig => Sys2Proof.Machine.execReadSig s
  | .selectL1 nvb u => Sys2Proof.Machine.execSelectL1 nvb u s
  | .selectL2 nvb u => Sys2Proof.Machine.execSelectL2 nvb u s
  | .ack => Sys2Proof.Machine.execAck s
  | .nakArgument => Sys2Proof.Machine.execNakArgument s
  | .nakCrc => Sys2Proof.Machine.execNakCrc s
  | .nakAuthOverflow => Sys2Proof.Machine.execNakAuthOverflow s
  | .nakWriteError => Sys2Proof.Machine.execNakWriteError s
  | .nakTimeout => Sys2Proof.Machine.execNakTimeout s
  | .nakDisconnected => Sys2Proof.Machine.execNakDisconnected s
  | .payload bytes crcOk => Sys2Proof.Machine.execPayload bytes crcOk s
  | .timeout => Sys2Proof.Machine.execTimeout s
  | .attach variant t m => Sys2Proof.Machine.execAttach variant t m s
  | .disconnect => Sys2Proof.Machine.execDisconnect s
  | .destroy => Sys2Proof.Machine.execDestroy s
  | .connect => Sys2Proof.Machine.execConnect s
  | .readSettings => Sys2Proof.Machine.execReadSettings s
  | .writeSettings record => Sys2Proof.Machine.execWriteSettings record s

end Sys2Proof.Machine
end

