-- ==== Sys2Proof/Machine/Fetch.lean ====
section
/-! DEFINITION. Where the next instruction comes from (spec/20_memory.md rule R71, spec/10_state.md rule R25): the answer to
the outstanding receive, else the running command's frame in the TX buffer, else the host's next command. -/

namespace Sys2Proof.Machine

/-- What the engine finds to do. -/
inductive Fetched where
  /-- Nothing: the engine waits for the host (R272). -/
  | waiting
  /-- An instruction, in the state without the bits it was read from. -/
  | run (i : Instr) (s : State)
  /-- A command whose data operand is absent. -/
  | absent (s : State)
  /-- A received bit pattern that raises a fault (R99). -/
  | raised (k : FaultKind) (s : State)
  /-- No command (R98). -/
  | refused (r : Refusal)
  /-- Bits no transport gives, or no frame in the TX buffer. -/
  | stop (f : Fault)

/-- The answer to the outstanding receive, decoded by its bit count (R120, R258). -/
def fetchAnswer (s : State) : Fetched :=
  match decode (.rx s.answer) with
  | .ok i => .run i s.afterAnswer
  | .error .reservedNibble => .raised .reservedNibble s.afterAnswer
  | .error .malformedLength => .raised .rxMalformed s.afterAnswer
  | .error _ => .stop .shortAnswer

/-- The frame in the TX buffer. -/
def fetchFrame (f : Frame) (s : State) : Fetched :=
  match decode (.tx f) with
  | .ok i => .run i s.unload
  | .error _ => .stop .badTxBuffer

/-- The head of the command port. -/
def fetchCommand (s : State) : Fetched :=
  match s.cmd with
  | [] => .waiting
  | f :: _ =>
    match decode (.cmd f) with
    | .ok i => .run i s.takeCmd
    | .error .absentOperand => .absent s.takeCmd
    | .error e => .refused (.notACommand e)

/-- The next thing to do. -/
def fetch (s : State) : Fetched :=
  match s.await, s.txbuf with
  | some _, _ => fetchAnswer s
  | none, some f => fetchFrame f s
  | none, none => fetchCommand s

/-- An encoded instruction put where the engine meets it, and the engine made to meet it next: a command at the head of
the command port of a free engine; a frame in the TX buffer, the data frame of COMP_WRITE at its position; an answer at
the head of the answers, with an acknowledgement-only receive outstanding. A transmit the instruction makes is answered
with `sent_all` true (log 8). -/
def placed (e : Encoded) (s : State) : State :=
  let s := { s with env := { s.env with sent := true :: s.env.sent } }
  match e with
  | .cmd f => { s with cmd := f :: s.cmd, txbuf := none, position := .idle, await := none }
  | .tx f =>
    { s with txbuf := some f, position := if f.bits = 128 then .compPhase2 else .idle, await := none }
  | .rx a =>
    { s with env := { s.env with rx := a :: s.env.rx }, position := .finishAck, await := some awaitAck }

end Sys2Proof.Machine
end

