-- ==== Sys2Proof/Machine/Step.lean ====
section
/-! DEFINITION. One step of the engine, and the place where the host puts an instruction. -/

namespace Sys2Proof.Machine

/-- One step: what `fetch` finds is done. A waiting engine stays as it is (R272). -/
def step (s : State) : Host.Outcome State Fault Refusal :=
  match fetch s with
  | .waiting => .next s
  | .run i t => exec i t
  | .absent t => absentOperand t
  | .raised k t => raise k t
  | .refused r => .refused r
  | .stop f => .fault f

/-- `s` with the table word's instruction placed so that the next step runs it (log 8). -/
def State.withFetchWord (s : State) (nbits w : Nat) : State := placed (tableWord nbits w) s

end Sys2Proof.Machine
end

