-- ==== Sys2Proof/Safety.lean ====
section
/-! DEFINITION. What counts as a safe run (spec/60_exceptions.md rule R250, spec/70_reset_and_hazards.md rule R294), and the
invariant of the engine's sequencing. -/

namespace Sys2Proof.Machine

/-- `k` steps from `s`. -/
def runSteps (k : Nat) (s : State) : Out := Host.Core.run Sys2Proof.core k s

/-- The session has no fault (R250: the premise of every claim about results). -/
def State.sound (s : State) : Prop := s.fault = none

/-- Between two commands: no fault, no command running, no transport call outstanding (R294). -/
def State.atRest (s : State) : Prop :=
  s.fault = none ∧ s.position = .idle ∧ s.await = none ∧ s.txbuf = none

/-- The engine is free and the session usable: what every command but ATTACH asks for before the gate (R125, R270,
R280). -/
def State.accepting (s : State) : Prop :=
  s.fault = none ∧ s.attached = true ∧ s.position = .idle ∧ s.await = none

/-- The STATE values in which the command at a position can be running: a gated command only when connected (R124),
CONNECT only in Requested (R150), REQUEST and WAKEUP in Requested (R142). -/
def Position.allows (p : Position) (x : Session) : Prop :=
  match p with
  | .idle => True
  | .finish _ => x.isConnected = true ∨ x = .requested
  | .anticoll _ => x = .requested
  | .select _ _ => x = .requested
  | .procedure _ _ _ => x = .requested
  | _ => x.isConnected = true

/-- The progress a macro can have made (R220, R224: pages 0 to 3). -/
def Position.inRange : Position → Prop
  | .readSettings done => done.length ≤ 3
  | .writeSettings _ i => i ≤ 3
  | _ => True

/-- The receive a command at a position makes: an acknowledgement where a write was sent (R189), else the payload its
rule expects (R95, R150). -/
def Position.expects (p : Position) (a : Await) : Prop :=
  match p with
  | .idle => True
  | .finish n => a.kind = .payload ∧ a.bits / 8 = n
  | .finishAck => a = awaitAck
  | .pwdAuth => a = awaitPayload 16
  | .compPhase1 _ => a = awaitAck
  | .compPhase2 => True
  | .anticoll _ => a = awaitPlain 40
  | .select _ _ => a = awaitPayload 8
  | .procedure _ ask _ => a = selectAskAwait ask
  | .readSettings _ => a = awaitPayload 128
  | .writeSettings _ _ => a = awaitAck

/-- At most one of the TX buffer and a receive is busy, and only while a command runs. -/
def State.sequenced (s : State) : Prop :=
  match s.position with
  | .idle => s.await = none ∧ s.txbuf = none
  | .compPhase2 => s.await = none ∧ s.txbuf.isSome = true
  | .finish _ => s.await.isSome = true ∧ s.txbuf = none
  | .finishAck => s.await.isSome = true ∧ s.txbuf = none
  | .pwdAuth => s.await.isSome = true ∧ s.txbuf = none
  | .compPhase1 _ => s.await.isSome = true ∧ s.txbuf = none
  | _ => s.await.isSome = !s.txbuf.isSome

/-- The capabilities R57 demands of an attached session. -/
def State.capable (s : State) : Prop :=
  s.attached = true →
    s.transport.transmit = true ∧ s.transport.receive = true ∧
    (s.crcMode = .hw → s.transport.transmitCrc = true ∧ s.transport.receiveCrc = true) ∧
    (s.crcMode = .sw → s.transport.crc16 ≠ none)

/-- The invariant of the engine: the buffers have their form (R31, R59), a payload stands in RXBUF only after ACK (R31),
a faulted session runs nothing (R250), a running command stands in a STATE that admits it (R124, R150), its position
and pending transport traffic agree (R25, R42), and the outstanding receive is the one its rule makes (R95, R189). -/
structure Inv (s : State) : Prop where
  buffers : Memory.wf s = true
  discarded : s.result ≠ .code .ack → s.rxlen = 0
  stopped : s.fault ≠ none → s.position = .idle
  unborn : s.attached = false → s.position = .idle
  admitted : s.position.allows s.session
  progress : s.position.inRange
  sequenced : s.sequenced
  listening : ∀ a, s.await = some a → s.position.expects a
  capable : s.capable

end Sys2Proof.Machine
end

