-- ==== Sys2Proof/Certificates/Slice0/Obligations.lean ====
section
/-! DEFINITION. The statements for the provers. Each says what the engine does, in the terms of the spec; the helpers below
spell out states and events so that a statement gives the whole next state, and with it the frame: a field that a
record update does not name is unchanged. The engine has no byte memory (spec/20_memory.md rule R59, log 22), so no
clause about memory appears; RXBUF, RXLEN and the TX buffer are fields like the others. -/

namespace Sys2Proof.Claims

open Sys2Proof.Machine

/-! ### Terms of the statements -/

/-- The transport call that sends the payload `b` of `n` bits with CRC (R91, R116): the with-CRC primitive gets the
payload, the raw primitive gets it with the trailer, low byte first. -/
def wireTx (s : State) (b : List Byte) (n : Nat) : Event :=
  match s.crcMode with
  | .hw => .transmitCrc ⟨b, n⟩
  | .sw => .transmit ⟨b ++ [lo8 (s.crc16 b), hi8 (s.crc16 b)], n + 16⟩

/-- The transport call that receives `p` payload bits with CRC (R120). -/
def wireRx (s : State) (p : Nat) : Event :=
  match s.crcMode with
  | .hw => .receiveCrc p
  | .sw => .receive (p + 16)

/-- The transport call that sends a frame with or without CRC. -/
def sentAs (s : State) (crc : Bool) (b : List Byte) (n : Nat) : Event :=
  if crc then wireTx s b n else .transmit ⟨b, n⟩

/-- The transport call that receives `p` payload bits with or without CRC. -/
def askedAs (s : State) (crc : Bool) (p : Nat) : Event := if crc then wireRx s p else .receive p

/-- What the transport answers to a receive with CRC when the payload `b` arrives whole: in `HW` mode the stripped bytes and a
passed check (R54), in `SW` mode the bytes with their trailer (R120). -/
def goodAnswer (s : State) (b : List Byte) : Answer :=
  match s.crcMode with
  | .hw => ⟨8 * b.length, b, true⟩
  | .sw => ⟨8 * b.length + 16, b ++ [lo8 (s.crc16 b), hi8 (s.crc16 b)], false⟩

/-- The raw call that puts on the wire, or asks of it, what a with-CRC call does (R53, R54, R116, R120). -/
def rawForm (s : State) : Event → Event
  | .transmitCrc f => .transmit ⟨f.bytes ++ [lo8 (s.crc16 f.bytes), hi8 (s.crc16 f.bytes)], f.bits + 16⟩
  | .receiveCrc p => .receive (p + 16)
  | e => e

/-- A state without what tells the two CRC modes apart: the mode itself, and the form of the transport calls made. -/
def modeless (s t : State) : State := { t with crcMode := .sw, events := t.events.map (rawForm s) }

/-- A frame was sent, a receive called, and the command waits at `p`. -/
def waiting (s : State) (tx rx : Event) (a : Await) (p : Position) : State :=
  { s with env := s.afterSent.env, events := rx :: tx :: s.events, await := some a, position := p }

/-- A command has ended with result `r` and payload `b`. -/
def ended (s : State) (r : Result) (b : List Byte) : State :=
  { s with
    result := r, rxbuf := b, rxlen := b.length, txbuf := none, position := .idle, await := none,
    events := .result r :: s.events }

/-- A sound session has faulted with `k`: nothing else of it is written, and nothing runs. -/
def faulted (k : FaultKind) (s : State) : State :=
  { s with fault := some k, txbuf := none, position := .idle, await := none }

/-- The transport did not send every bit of the call `tx` (decision D18). -/
def cutShort (s : State) (tx : Event) : State :=
  faulted .txIncomplete { s with env := s.afterSent.env, events := tx :: s.events }

/-- The commands the gate stops (R124). -/
def gated : Instr → Bool
  | .request => false
  | .wakeup => false
  | .halt => true
  | .getVersion => true
  | .read _ => true
  | .fastRead _ _ => true
  | .write _ _ => true
  | .compWriteP1 _ _ => true
  | .compWriteP2 _ => false
  | .readCnt _ => true
  | .pwdAuth _ => true
  | .readSig => true
  | .selectL1 _ _ => false
  | .selectL2 _ _ => false
  | .ack => false
  | .nakArgument => false
  | .nakCrc => false
  | .nakAuthOverflow => false
  | .nakWriteError => false
  | .nakTimeout => false
  | .nakDisconnected => false
  | .payload _ _ => false
  | .timeout => false
  | .attach _ _ _ => false
  | .disconnect => false
  | .destroy => false
  | .connect => false
  | .readSettings => true
  | .writeSettings _ => true

/-- The commands the gate lets through, but for ATTACH (R124). -/
def ungated : Instr → Bool
  | .request => true
  | .wakeup => true
  | .halt => false
  | .getVersion => false
  | .read _ => false
  | .fastRead _ _ => false
  | .write _ _ => false
  | .compWriteP1 _ _ => false
  | .compWriteP2 _ => false
  | .readCnt _ => false
  | .pwdAuth _ => false
  | .readSig => false
  | .selectL1 _ _ => false
  | .selectL2 _ _ => false
  | .ack => false
  | .nakArgument => false
  | .nakCrc => false
  | .nakAuthOverflow => false
  | .nakWriteError => false
  | .nakTimeout => false
  | .nakDisconnected => false
  | .payload _ _ => false
  | .timeout => false
  | .attach _ _ _ => false
  | .disconnect => true
  | .destroy => true
  | .connect => true
  | .readSettings => false
  | .writeSettings _ => false

/-- The code of a 4-bit NAK response (R94). -/
def nakOf : Instr → Option AckCode
  | .request => none
  | .wakeup => none
  | .halt => none
  | .getVersion => none
  | .read _ => none
  | .fastRead _ _ => none
  | .write _ _ => none
  | .compWriteP1 _ _ => none
  | .compWriteP2 _ => none
  | .readCnt _ => none
  | .pwdAuth _ => none
  | .readSig => none
  | .selectL1 _ _ => none
  | .selectL2 _ _ => none
  | .ack => none
  | .nakArgument => some .nakArgument
  | .nakCrc => some .nakCrc
  | .nakAuthOverflow => some .nakAuthOverflow
  | .nakWriteError => some .nakWriteError
  | .nakTimeout => some .nakTimeout
  | .nakDisconnected => some .nakDisconnected
  | .payload _ _ => none
  | .timeout => none
  | .attach _ _ _ => none
  | .disconnect => none
  | .destroy => none
  | .connect => none
  | .readSettings => none
  | .writeSettings _ => none

/-- The response rows (R93). -/
def isResponse : Instr → Bool
  | .request => false
  | .wakeup => false
  | .halt => false
  | .getVersion => false
  | .read _ => false
  | .fastRead _ _ => false
  | .write _ _ => false
  | .compWriteP1 _ _ => false
  | .compWriteP2 _ => false
  | .readCnt _ => false
  | .pwdAuth _ => false
  | .readSig => false
  | .selectL1 _ _ => false
  | .selectL2 _ _ => false
  | .ack => true
  | .nakArgument => true
  | .nakCrc => true
  | .nakAuthOverflow => true
  | .nakWriteError => true
  | .nakTimeout => true
  | .nakDisconnected => true
  | .payload _ _ => true
  | .timeout => true
  | .attach _ _ _ => false
  | .disconnect => false
  | .destroy => false
  | .connect => false
  | .readSettings => false
  | .writeSettings _ => false

/-- The thirteen opcodes of R81. -/
def opcodes : List Byte :=
  [0x26, 0x52, 0x50, 0x60, 0x30, 0x3A, 0xA2, 0xA0, 0x39, 0x1B, 0x3C, 0x93, 0x95]

/-- The frame a transmit event carries. -/
def frameOf : Event → Option Frame
  | .transmit f => some f
  | .transmitCrc f => some f
  | _ => none

/-- Whether an event is a receive call. -/
def isReceive : Event → Bool
  | .receive _ => true
  | .receiveCrc _ => true
  | _ => false

/-- A command waits for the outstanding receive. -/
def listens (s : State) (a : Await) : Prop :=
  s.await = some a ∧ s.position ≠ .idle ∧ s.position ≠ .compPhase2

/-- The two trailing bytes of `r` are the CRC of what stands before them. -/
def crcPasses (s : State) (r : List Byte) : Prop :=
  ∃ b, r = b ++ [lo8 (s.crc16 b), hi8 (s.crc16 b)]

/-- What a CONNECT with `SelectProc` number `k` is next, after these answers: faulted, with its next select frame in the TX
buffer, or complete. -/
def procedureGoesOn (k : Nat) (answers : List (Option (List Byte))) (s : State) : State :=
  match Config.customSelect k answers with
  | .malformed => faulted .selectMalformed s
  | .send ask => { s with
      position := .procedure k ask answers
      txbuf := some ⟨(if ask.level = .one then 0x93 else 0x95) :: ask.nvb :: ask.uidPart.val,
        16 + 8 * ask.uidPart.val.length⟩ }
  | .done u => ended { s with uid := u, session := .selected } (.code .ack) []

/-- A collision probe has been made, and its answer is used up. -/
def probed (s : State) : State := { s with env := s.afterProbe.env, events := .probe :: s.events }

/-- An exchange of a procedure has its answer, and the collision probe it asks for has answered false. -/
def answered (ask : SelectAsk) (s : State) : State :=
  if ask.probe then { probed s with await := none } else { s with await := none }

/-- The instruction completes a CONNECT with the UID `u`: the last answer of the default cascade, or the point at which
another `SelectProc` is done. -/
def connectEnds (i : Instr) (s : State) (u : Uid) : Prop :=
  (∃ b ok part r, i = .payload b ok ∧ s.position = .select (.two part) r ∧ u = ⟨part, r⟩) ∨
  (i = .connect ∧ ∃ k, s.params.selectProc = .custom k ∧ Config.customSelect k [] = .done u) ∨
  (∃ k ask answers p, s.position = .procedure k ask answers ∧
    ((i = .ack ∧ p = none) ∨ ∃ b ok q, i = .payload b ok ∧ p = some q) ∧
    Config.customSelect k (answers ++ [p]) = .done u)

/-- Apply `f` to a next state. -/
def mapNext (f : State → State) : Out → Out
  | .next s => .next (f s)
  | .fault r => .fault r
  | .refused r => .refused r

/-- The states of two runs that differ at most in Selected against Authenticated. -/
def asSelected (s : State) : State := s.setSession .selected

end Sys2Proof.Claims

open Sys2Proof Sys2Proof.Machine Sys2Proof.Claims

/-! ### Encoding -/

/-- Decoding the words of a well-formed instruction gives the instruction back, for every instruction and every operand. The word
forms of host commands without a frame are the model's (log 7). -/
def Obligations.DecodeEncodeAgree : Prop :=
  ∀ i : Instr, i.wf = true → decode (encode i) = .ok i

/-- One word of each family, written out from the patterns of R84 to R94, decodes to its instruction. -/
def Obligations.WrittenWordsDecode : Prop :=
  decode (.cmd ⟨[0b00100110], 7⟩) = .ok .request ∧
  decode (.cmd ⟨[0b00110000, 0x04], 16⟩) = .ok (.read 0x04) ∧
  decode (.cmd ⟨[0b00111010, 0x04, 0x07], 24⟩) = .ok (.fastRead 0x04 0x07) ∧
  decode (.cmd ⟨[0b10100010, 0x05, 0xDE, 0xAD, 0xBE, 0xEF], 48⟩) = .ok (.write 0x05 ⟨0xDE, 0xAD, 0xBE, 0xEF⟩) ∧
  decode (.cmd ⟨[0b00011011, 0x11, 0x22, 0x33, 0x44], 40⟩) = .ok (.pwdAuth ⟨0x11, 0x22, 0x33, 0x44⟩) ∧
  decode (.tx ⟨[0b10010011, 0x20], 16⟩) = .ok (.selectL1 0x20 []) ∧
  decode (.rx ⟨4, [0b11111010], false⟩) = .ok .ack ∧
  decode (.rx ⟨0, [], false⟩) = .ok .timeout

/-- R81: the thirteen opcodes are pairwise different, 0x26 differs from the low 7 bits of every other, and no frame the engine
sends begins with another byte (the data frame of COMP_WRITE has no opcode, R80). -/
def Obligations.EngineEmitsOnlyItsOpcodes : Prop :=
  (Opcode.request = 0x26 ∧ Opcode.wakeup = 0x52 ∧ Opcode.halt = 0x50 ∧ Opcode.getVersion = 0x60 ∧
    Opcode.read = 0x30 ∧ Opcode.fastRead = 0x3A ∧ Opcode.write = 0xA2 ∧ Opcode.compWrite = 0xA0 ∧
    Opcode.readCnt = 0x39 ∧ Opcode.pwdAuth = 0x1B ∧ Opcode.readSig = 0x3C ∧
    Opcode.selectL1 = 0x93 ∧ Opcode.selectL2 = 0x95) ∧
  opcodes.Nodup ∧
  (∀ o ∈ opcodes, o ≠ 0x26 → o.extractLsb' 0 7 ≠ (0x26 : Byte).extractLsb' 0 7) ∧
  ∀ (i : Instr) (s t : State) (e : Event) (f : Frame), exec i s = .next t → (∀ d, i ≠ .compWriteP2 d) →
    e ∈ t.events → frameOf e = some f → e ∈ s.events ∨ ∃ o ∈ opcodes, f.bytes.head? = some o

/-- R39: the seven wire values are the codes' values, and the nine other 4-bit values name no code. That the value stands in
bits 3:0 of the first buffer byte, and bits 7:4 play no part, is decision D6 (R62, log 16). -/
def Obligations.NibblesNameSevenCodes : Prop :=
  (∀ (v : Byte) (rest : List Byte) (ok : Bool), decode (.rx ⟨4, v :: rest, ok⟩) =
    if v.extractLsb' 0 4 = 0xA then .ok .ack
    else if v.extractLsb' 0 4 = 0x0 then .ok .nakArgument
    else if v.extractLsb' 0 4 = 0x1 then .ok .nakCrc
    else if v.extractLsb' 0 4 = 0x4 then .ok .nakAuthOverflow
    else if v.extractLsb' 0 4 = 0x5 then .ok .nakWriteError
    else if v.extractLsb' 0 4 = 0xF then .ok .nakTimeout
    else if v.extractLsb' 0 4 = 0xC then .ok .nakDisconnected
    else .error .reservedNibble) ∧
  codeBits .ack = 0xA ∧ codeBits .nakArgument = 0x0 ∧ codeBits .nakCrc = 0x1 ∧ codeBits .nakAuthOverflow = 0x4 ∧
  codeBits .nakWriteError = 0x5 ∧ codeBits .nakTimeout = 0xF ∧ codeBits .nakDisconnected = 0xC ∧
  (∀ c d : AckCode, codeBits c = codeBits d → c = d)

/-- What the engine does with an answer depends on its exact bit count alone (R93; the fault on another count is decision D17):
zero bits run TIMEOUT, a whole number of bytes runs PAYLOAD with those bytes, and a count that is neither 0, nor 4, nor a
multiple of 8 faults with RX_MALFORMED, as a 4-bit answer that names no code faults with RESERVED_NIBBLE (D16). -/
def Obligations.AnswersToldApartByBitCount : Prop :=
  ∀ (s : State) (w : Await) (a : Answer) (rest : List Answer),
    s.await = some w → s.env.rx = a :: rest → s.fault = none → a.bits ≤ 8 * a.buf.length →
    (a.bits = 0 → step s = exec .timeout { s with env := { s.env with rx := rest } }) ∧
    (a.bits ≠ 0 → a.bits % 8 = 0 →
      step s = exec (.payload (a.buf.take (a.bits / 8)) a.crcOk) { s with env := { s.env with rx := rest } }) ∧
    (a.bits ≠ 4 → a.bits % 8 ≠ 0 →
      step s = .next (faulted .rxMalformed { s with env := { s.env with rx := rest } })) ∧
    (a.bits = 4 → (∀ c, codeBits c ≠ (a.buf.headD 0).extractLsb' 0 4) →
      step s = .next (faulted .reservedNibble { s with env := { s.env with rx := rest } }))

/-- R84 to R91: the frame each command puts on the wire when it is accepted: the exact payload bytes, the exact bit count, and
the CRC trailer on every frame but REQUEST, low byte first, or left to the transport in `HW` mode. -/
def Obligations.FramesOnTheWire : Prop :=
  ∀ s : State, s.accepting → s.connected = true → s.sentAll = true →
    (∀ t, exec .request s = .next t → .transmit ⟨[0x26], 7⟩ ∈ t.events) ∧
    (∀ t, exec .wakeup s = .next t → wireTx s [0x52] 8 ∈ t.events) ∧
    (∀ t, exec .halt s = .next t → wireTx s [0x50] 8 ∈ t.events) ∧
    (∀ t, exec .getVersion s = .next t → wireTx s [0x60] 8 ∈ t.events) ∧
    (∀ p t, exec (.read p) s = .next t → wireTx s [0x30, p] 16 ∈ t.events) ∧
    (∀ p d t, exec (.compWriteP1 p d) s = .next t → wireTx s [0xA0, p] 16 ∈ t.events) ∧
    (∀ n t, exec (.readCnt n) s = .next t → wireTx s [0x39, n] 16 ∈ t.events) ∧
    (∀ t, exec .readSig s = .next t → wireTx s [0x3C, 0x00] 16 ∈ t.events) ∧
    (∀ a e t, a.toNat ≤ e.toNat → exec (.fastRead a e) s = .next t → wireTx s [0x3A, a, e] 24 ∈ t.events) ∧
    (∀ p d t, exec (.write p d) s = .next t → wireTx s [0xA2, p, d.b0, d.b1, d.b2, d.b3] 48 ∈ t.events) ∧
    (∀ w t, exec (.pwdAuth w) s = .next t → wireTx s [0x1B, w.b0, w.b1, w.b2, w.b3] 40 ∈ t.events) ∧
    (∀ d, ∃ t, exec (.compWriteP2 d) { s with position := .compPhase2 } = .next t ∧
      wireTx s d.toList 128 ∈ t.events)

/-! ### CRC engine and settings codec -/

/-- R61: the CRC goes low byte first, and a received string of at least two bytes passes exactly when its last two bytes are
the low and the high byte of the CRC of the bytes before them; it then yields those bytes. -/
def Obligations.CrcTrailerLowByteFirst : Prop :=
  ∀ f : List Byte → Word16,
    (∀ b, crcAppend f b = b ++ [(f b).extractLsb' 0 8, (f b).extractLsb' 8 8]) ∧
    (∀ r p, 2 ≤ r.length →
      (crcCheck f r = some p ↔
        p = r.take (r.length - 2) ∧ r[r.length - 2]? = some ((f p).extractLsb' 0 8) ∧
          r[r.length - 1]? = some ((f p).extractLsb' 8 8)))

/-- The round trip of X4 and R114: a payload with its CRC appended passes the check with the same function and comes back
unchanged, for every function and every payload, the empty one included. -/
def Obligations.CrcRoundTrip : Prop :=
  ∀ (f : List Byte → Word16) (b : List Byte), crcCheck f (crcAppend f b) = some b

/-- X4 for the real-tag function (R112, log 10): when one payload byte differs from the one the trailer was made for, the
engine answers NAK-CRC and delivers no payload. -/
def Obligations.CorruptedByteIsCaught : Prop :=
  ∀ (s : State) (w : Await) (pre post : List Byte) (x y : Byte) (ok : Bool),
    listens s w → w.kind = .payload → w.crc = true → s.crcMode = .sw → s.transport.crc16 = some .crcA → x ≠ y →
    ∃ t, exec (.payload (pre ++ y :: post ++ [lo8 (crcA (pre ++ x :: post)), hi8 (crcA (pre ++ x :: post))]) ok) s
        = .next t ∧
      t.result = .code .nakCrc ∧ t.rxlen = 0 ∧ t.rxbuf = []

/-- R122: a payload that fails its CRC is never visible: the command ends with NAK-CRC, RXLEN is 0, no byte of it is handed on,
and SETTINGS and UID are as they were. -/
def Obligations.FailedPayloadNeverVisible : Prop :=
  ∀ (s : State) (w : Await) (r : List Byte) (ok : Bool),
    listens s w → w.kind = .payload → w.crc = true →
    (s.crcMode = .sw → ¬ crcPasses s r) → (s.crcMode = .hw → ok = false) →
    ∃ t, exec (.payload r ok) s = .next t ∧ t.result = .code .nakCrc ∧ t.rxlen = 0 ∧ t.rxbuf = [] ∧
      t.settings = s.settings ∧ t.uid = s.uid ∧ t.position = .idle ∧ t.await = none

/-- The law R216 asks of any codec, for the default layout of R217 (log 11): unpacking a packed record gives it back. -/
def Obligations.StandardCodecRoundTrip : Prop :=
  ∀ r : Settings, unpackStandard (packStandard r) = r

/-- The law R216 requires of any codec, for every value of the parameter SettingsCodec (log 11): unpacking a packed record gives
it back; bytes 4i to 4i+3 of the sixteen are page i. -/
def Obligations.EveryCodecRoundTrips : Prop :=
  ∀ (c : SettingsCodec) (r : Settings), unpack c (pack c r) = r ∧
    ∀ i, i ≤ 3 → (pageOf (pack c r) i).toList = ((pack c r).toList.drop (4 * i)).take 4

/-- The default layout of R217 (log 11), bit by bit: the numbers of the mirror modes (D32, log 11), where each field is packed,
that reserved bits are packed as 0, and that unpacking ignores them. -/
def Obligations.StandardCodecLayout : Prop :=
  (mirrorBits .none = 0 ∧ mirrorBits .uid = 1 ∧ mirrorBits .counter = 2 ∧ mirrorBits .both = 3) ∧
  (∀ r : Settings,
    (packStandard r).p0.b0.extractLsb' 6 2 = mirrorBits r.mirrorMode ∧
    (packStandard r).p0.b0.extractLsb' 4 2 = r.mirrorByte ∧
    (packStandard r).p0.b0.getLsbD 3 = false ∧
    (packStandard r).p0.b0.getLsbD 2 = r.strongMod ∧
    (packStandard r).p0.b0.extractLsb' 0 2 = 0 ∧
    (packStandard r).p0.b1 = 0 ∧ (packStandard r).p0.b2 = r.mirrorPage ∧ (packStandard r).p0.b3 = r.auth0 ∧
    (packStandard r).p1.b0.getLsbD 7 = r.pwdLock ∧ (packStandard r).p1.b0.getLsbD 6 = r.cfgLock ∧
    (packStandard r).p1.b0.getLsbD 5 = false ∧ (packStandard r).p1.b0.getLsbD 4 = r.cntEn ∧
    (packStandard r).p1.b0.getLsbD 3 = r.cntProt ∧ (packStandard r).p1.b0.extractLsb' 0 3 = r.authLim ∧
    (packStandard r).p1.b1 = 0 ∧ (packStandard r).p1.b2 = 0 ∧ (packStandard r).p1.b3 = 0 ∧
    (packStandard r).p2 = r.pwd ∧ (packStandard r).p3 = ⟨r.pack.b0, r.pack.b1, 0, 0⟩) ∧
  (∀ b c : Bytes16, b.p0.b0 &&& 0xF4 = c.p0.b0 &&& 0xF4 → b.p0.b2 = c.p0.b2 → b.p0.b3 = c.p0.b3 →
    b.p1.b0 &&& 0xDF = c.p1.b0 &&& 0xDF → b.p2 = c.p2 → b.p3.b0 = c.p3.b0 → b.p3.b1 = c.p3.b1 →
    unpackStandard b = unpackStandard c)

/-- R215: the settings base pages; the mapping covers the three variants, and any other variant value presented at ATTACH (a
variant byte above 2: the numbers are the model's, log 7) is the fault BAD_VARIANT. The page index of the macros never wraps
(R230). -/
def Obligations.SettingsBasePages : Prop :=
  cfgBase .a = 0x29 ∧ cfgBase .b = 0x83 ∧ cfgBase .c = 0xE3 ∧
  (∀ v i, i ≤ 3 → (settingsPage v i).toNat = (cfgBase v).toNat + i ∧ (settingsPage v i).toNat ≤ 0xE6) ∧
  (∀ (v : Byte) (tr : Transport) (m : CrcMode) (s : State), 2 < v.toNat → s.await = none → s.position = .idle →
    exec (.attach v tr m) s = .next (faulted .badVariant s))

/-! ### Reset, step, invariant -/

/-- Reset is session creation: the state right after an ATTACH (the table of R41). The ATTACH arguments are the model's choice
(log 1); STATE, UID, RESULT and part of SETTINGS are the spec's own choice D23 (log 2, log 3). -/
def Obligations.ResetIsACreatedSession : Prop :=
  State.reset.session = .idle ∧ State.reset.connected = false ∧ State.reset.awake = false ∧
  State.reset.authenticated = false ∧ State.reset.uid.toList = [0, 0, 0, 0, 0, 0, 0] ∧
  State.reset.settings.pwd.toList = [0xFF, 0xFF, 0xFF, 0xFF] ∧ State.reset.settings.pwdLock = false ∧
  State.reset.settings.cfgLock = false ∧ State.reset.settings.cntProt = false ∧
  State.reset.settings.mirrorMode = .none ∧ State.reset.settings.mirrorByte = 0 ∧
  State.reset.settings.mirrorPage = 0 ∧ State.reset.settings.cntEn = false ∧ State.reset.settings.authLim = 0 ∧
  State.reset.settings.strongMod = true ∧ State.reset.settings.auth0 = 0xFF ∧
  State.reset.settings.pack.toList = [0, 0] ∧ State.reset.result = .code .ack ∧ State.reset.rxlen = 0 ∧
  State.reset.rxbuf = [] ∧ State.reset.txbuf = none ∧ State.reset.fault = none ∧ State.reset.atRest ∧
  (∀ s, exec (.attach 0 State.reset.transport .sw) { State.reset with attached := false } = .next s →
    { s with events := [] } = State.reset)

/-- The reset state satisfies the engine's invariant. -/
def Obligations.ResetSatisfiesInvariant : Prop := Inv State.reset

/-- Every step keeps the engine's invariant: buffers of the right form, discarded payloads, no command on a faulted session, a
running command only in a STATE that admits it, position and transport traffic in agreement, capabilities as R57
demands, the outstanding receive the one its command's rule makes. -/
def Obligations.StepKeepsInvariant : Prop :=
  ∀ s t : State, Inv s → step s = .next t → Inv t

/-- A step runs the decoded instruction. With no receive outstanding and an empty TX buffer the head of the command port is
decoded and run, in the state without it; with a frame in the TX buffer that frame; with a receive outstanding the transport's
next answer. With nothing to do the engine stays as it is. -/
def Obligations.StepRunsTheDecodedInstruction : Prop :=
  (∀ (s : State) (f : Frame) (rest : List Frame) (i : Instr), s.await = none → s.txbuf = none → s.cmd = f :: rest →
    decode (.cmd f) = .ok i → step s = exec i { s with cmd := rest }) ∧
  (∀ (s : State) (f : Frame) (i : Instr), s.await = none → s.txbuf = some f → decode (.tx f) = .ok i →
    step s = exec i { s with txbuf := none }) ∧
  (∀ (s : State) (w : Await) (a : Answer) (rest : List Answer) (i : Instr), s.await = some w →
    s.env.rx = a :: rest → decode (.rx a) = .ok i → step s = exec i { s with env := { s.env with rx := rest } }) ∧
  (∀ s : State, s.await = none → s.txbuf = none → s.cmd = [] → step s = .next s)

/-! ### Whole-machine rules -/

/-- R58 (which the spec marks as derived): the same wire traffic gives the same outcome in both CRC modes. An instruction that
checks no CRC, every command among them, leads to the same next state but for CRC_MODE and the form of its transport calls. The
engine's own check of a received string of at least one payload byte (an empty payload is told apart: log 25), and the
transport's check of the same string with its trailer stripped, lead to the same next state, at every position. -/
def Obligations.HwAndSwAgree : Prop :=
  (∀ (i : Instr) (s : State), s.crcMode = .sw →
    (∀ b ok w, i = .payload b ok → s.await = some w → w.crc = false) →
    mapNext (modeless s) (exec i { s with crcMode := .hw }) = mapNext (modeless s) (exec i s)) ∧
  (∀ (s : State) (w : Await) (r : List Byte) (x : Bool), s.await = some w → w.crc = true → s.crcMode = .sw →
    3 ≤ r.length →
    ((crcCheck s.crc16 r).isSome = x →
      mapNext (fun t => { t with crcMode := .sw })
          (exec (.payload (r.take (r.length - 2)) x) { s with crcMode := .hw })
        = mapNext (fun t => { t with crcMode := .sw }) (exec (.payload r false) s)))

/-- R207: STATE = Authenticated changes nothing in how the engine runs any later command. For every instruction a session in
Authenticated and one in Selected give the same outcome: where the one stays in Authenticated the other stays in Selected, and
they agree in everything else. What ends a running PWD_AUTH leads both to the very same state, because a failed one drops
Authenticated to Selected (decision D12, log 24). -/
def Obligations.AuthenticatedRunsLikeSelected : Prop :=
  ∀ (i : Instr) (s : State), s.session = .authenticated →
    (s.position ≠ .pwdAuth →
      mapNext (fun t => if t.session = .authenticated then asSelected t else t) (exec i s)
        = exec i (asSelected s)) ∧
    (s.position = .pwdAuth → exec i s = exec i (asSelected s))

/-- The engine reads SETTINGS only to compare the password acknowledgement (R70: no rule compares a page index with AUTH0 or
reads CFG_LOCK; R278: no command but PWD_AUTH reads SETTINGS). Two sessions that differ in SETTINGS give outcomes that
differ at most in SETTINGS, for every instruction outside a running PWD_AUTH. -/
def Obligations.OnlyPwdAuthReadsSettings : Prop :=
  ∀ (i : Instr) (s : State) (r : Settings), s.position ≠ .pwdAuth →
    mapNext (State.setSettings Settings.default) (exec i (s.setSettings r))
      = mapNext (State.setSettings Settings.default) (exec i s)

/-- Which instruction may write which register: VARIANT, TRANSPORT and CRC_MODE only ATTACH (R21, R22), UID only ATTACH, DESTROY
and the completion of CONNECT (R24, R150), SETTINGS only ATTACH, DESTROY, the last answer of READ_SETTINGS and the
acknowledgement of the last page of WRITE_SETTINGS (R33, R220, R224), and the command port and the open parameters nothing. -/
def Obligations.RegistersHaveTheirWriters : Prop :=
  ∀ (i : Instr) (s t : State), Inv s → exec i s = .next t →
    t.cmd = s.cmd ∧ t.params = s.params ∧
    ((t.variant = s.variant ∧ t.transport = s.transport ∧ t.crcMode = s.crcMode ∧ t.attached = s.attached) ∨
      ∃ v tr m, i = .attach v tr m) ∧
    (t.uid = s.uid ∨ (∃ v tr m, i = .attach v tr m) ∨ i = .destroy ∨ connectEnds i s t.uid) ∧
    (t.settings = s.settings ∨ (∃ v tr m, i = .attach v tr m) ∨ i = .destroy ∨
      (∃ b ok p0 p1 p2 p3, i = .payload b ok ∧ s.position = .readSettings [p0, p1, p2] ∧
        t.settings = unpack s.params.codec ⟨p0, p1, p2, p3⟩) ∨
      (∃ r, i = .ack ∧ s.position = .writeSettings r 3 ∧ t.settings = r))

/-- The views of STATE, on all its six values (R27 to R29), and the transition table of R160, with its From column: STATE changes
only as one of its rows says. -/
def Obligations.StateTransitionTable : Prop :=
  (∀ s : State,
    (s.connected = true ↔ s.session = .selected ∨ s.session = .authenticated) ∧
    (s.awake = true ↔ s.session = .requested ∨ s.session = .selected ∨ s.session = .authenticated) ∧
    (s.authenticated = true ↔ s.session = .authenticated)) ∧
  ∀ (i : Instr) (s t : State), Inv s → exec i s = .next t →
    t.session = s.session ∨
    ((∃ v tr m, i = .attach v tr m) ∧ t.session = .idle) ∨
    ((i = .request ∨ i = .wakeup) ∧ t.session = .requested) ∨
    (connectEnds i s t.uid ∧ s.session = .requested ∧ t.session = .selected ∧ t.result = .code .ack) ∨
    (∃ b ok, i = .payload b ok ∧ s.position = .pwdAuth ∧ s.connected = true ∧ t.session = .authenticated ∧
      t.rxbuf = s.settings.pack.toList ∧ t.result = .code .ack) ∨
    (s.position = .pwdAuth ∧ isResponse i = true ∧ i ≠ .timeout ∧ s.session = .authenticated ∧
      t.session = .selected ∧ t.result ≠ .code .ack) ∨
    (i = .halt ∧ s.connected = true ∧ t.session = .halted) ∨
    (i = .timeout ∧ t.session = .disconnected) ∨
    (i = .disconnect ∧ t.session = .disconnected) ∨
    (i = .destroy ∧ t.session = .idle)

/-- Raising a fault (decision D20, log 5): the command stops and nothing runs; every register but FAULT is as it was, STATE,
RESULT, RXBUF, RXLEN, UID and SETTINGS among them; the transport calls made before are recorded, and no result is. A fault
that is there already is kept by every instruction but ATTACH. -/
def Obligations.FaultsStopTheCommand : Prop :=
  (∀ (i : Instr) (s t : State), s.fault = none → exec i s = .next t → t.fault ≠ none →
    t = { s with
      fault := t.fault, position := .idle, await := none, txbuf := none, env := t.env, events := t.events } ∧
    ∃ new, t.events = new ++ s.events ∧ ∀ r, .result r ∉ new) ∧
  (∀ (i : Instr) (s t : State) (k : FaultKind), s.fault = some k → exec i s = .next t →
    t.fault = some k ∨ ∃ v tr m, i = .attach v tr m)

/-- On a faulted session every command but ATTACH is refused (decision D20). -/
def Obligations.FaultedSessionRefuses : Prop :=
  ∀ (i : Instr) (s : State) (k : FaultKind), gated i = true ∨ ungated i = true → s.fault = some k →
    exec i s = .refused (.sessionFaulted k)

/-- Before the first ATTACH every other command is refused (decision D23). -/
def Obligations.UnattachedSessionRefuses : Prop :=
  ∀ (i : Instr) (s : State), gated i = true ∨ ungated i = true → s.fault = none → s.attached = false →
    exec i s = .refused .notAttached

/-- While a command runs the engine takes no host command (R280, decision D27): a step leaves the command port as it is, and a
host command presented to a session that waits for an answer is refused. -/
def Obligations.RunningCommandIsNotDisturbed : Prop :=
  (∀ s t : State, Inv s → s.position ≠ .idle → step s = .next t → t.cmd = s.cmd) ∧
  (∀ (i : Instr) (s : State), gated i = true ∨ ungated i = true → s.fault = none → s.attached = true →
    s.await ≠ none → exec i s = .refused .commandRunning) ∧
  (∀ (v : Byte) (tr : Transport) (m : CrcMode) (s : State), s.position ≠ .idle →
    exec (.attach v tr m) s = .refused .commandRunning)

/-- R124: on a session that is not connected a gated command ends at once with NAK-disconnected, makes no transport call and
changes no state but RESULT and RXLEN (RXBUF, which the host must not read then, is held empty: log 13); the commands that are not
gated never end that way. -/
def Obligations.GateKeepsUnconnectedSilent : Prop :=
  (∀ (i : Instr) (s : State), gated i = true → s.accepting → s.connected = false →
    exec i s = .next (ended s (.code .nakDisconnected) [])) ∧
  (∀ (i : Instr) (s t : State), ungated i = true ∨ (∃ v tr m, i = .attach v tr m) → exec i s = .next t →
    t.result = s.result ∨ t.result = .code .ack)

/-- The unit of work is one exchange (R68, R71): an instruction adds at most one transmit call and at most one receive call to
the history, removes nothing, and puts the receive after the transmit. -/
def Obligations.OneExchangePerInstruction : Prop :=
  ∀ (i : Instr) (s t : State), exec i s = .next t →
    ∃ new, t.events = new ++ s.events ∧ (new.filterMap frameOf).length ≤ 1 ∧
      (new.filter isReceive).length ≤ 1 ∧
      (∀ e ∈ new, isReceive e = true → ∃ tx, frameOf tx ≠ none ∧ new = [e, tx])

/-! ### Session commands -/

/-- ATTACH with a variant A, B or C (port numbers 0, 1, 2: log 7) and the capabilities of R57 creates the session: every register
at the value of R41's table (which the spec marks as its choice for part of them, D23, log 2, log 3), FAULT cleared. It is
accepted on a faulted session. -/
def Obligations.AttachCreatesTheSession : Prop :=
  ∀ (v : Byte) (var : Variant) (tr : Transport) (m : CrcMode) (s : State),
    (v = 0 ∧ var = .a) ∨ (v = 1 ∧ var = .b) ∨ (v = 2 ∧ var = .c) → tr.transmit = true → tr.receive = true →
    (m = .hw → tr.transmitCrc = true ∧ tr.receiveCrc = true) → (m = .sw → tr.crc16 ≠ none) →
    s.await = none → s.position = .idle →
    exec (.attach v tr m) s = .next
      { attached := true, variant := var, transport := tr, crcMode := m, session := .idle,
        uid := ⟨⟨0, 0, 0⟩, ⟨0, 0, 0, 0⟩⟩, settings := Settings.default, result := .code .ack, rxbuf := [], rxlen := 0,
        fault := none, txbuf := none, position := .idle, await := none, cmd := s.cmd, env := s.env,
        events := .result (.code .ack) :: s.events, params := s.params }

/-- ATTACH without the mandatory raw pair faults with NO_TRANSPORT; HW without both with-CRC primitives, and SW without a CRC
function, fault with NO_CRC_CAPABILITY (decision D34); nothing but FAULT is written. -/
def Obligations.AttachDemandsCapabilities : Prop :=
  ∀ (v : Byte) (tr : Transport) (m : CrcMode) (s : State), v.toNat ≤ 2 → s.await = none → s.position = .idle →
    (tr.transmit = false ∨ tr.receive = false → exec (.attach v tr m) s = .next (faulted .noTransport s)) ∧
    (tr.transmit = true → tr.receive = true → m = .hw → tr.transmitCrc = false ∨ tr.receiveCrc = false →
      exec (.attach v tr m) s = .next (faulted .noCrcCapability s)) ∧
    (tr.transmit = true → tr.receive = true → m = .sw → tr.crc16 = none →
      exec (.attach v tr m) s = .next (faulted .noCrcCapability s))

/-- REQUEST and WAKEUP run in every STATE (decision D8): the frame is sent (7 bits without CRC, or 8 bits with CRC), STATE becomes
Requested, where the session is awake and not connected (R27, R28), and a receive of ATQA_BITS bits without CRC is called (D7;
the expected bytes are ATQA_BITS / 8 rounded down, log 9). When the transport does not send every bit they fault before STATE is
written (D18). -/
def Obligations.RequestAndWakeupProbe : Prop :=
  ∀ s : State, s.accepting →
    (s.sentAll = true →
      exec .request s = .next { waiting s (.transmit ⟨[0x26], 7⟩) (.receive s.params.atqaBits)
        ⟨s.params.atqaBits, false, .payload⟩ (.finish (s.params.atqaBits / 8)) with session := .requested } ∧
      exec .wakeup s = .next { waiting s (wireTx s [0x52] 8) (.receive s.params.atqaBits)
        ⟨s.params.atqaBits, false, .payload⟩ (.finish (s.params.atqaBits / 8)) with session := .requested } ∧
      ∀ i t, i = .request ∨ i = .wakeup → exec i s = .next t →
        t.awake = true ∧ t.connected = false ∧ t.authenticated = false) ∧
    (s.sentAll = false →
      exec .request s = .next (cutShort s (.transmit ⟨[0x26], 7⟩)) ∧
      exec .wakeup s = .next (cutShort s (wireTx s [0x52] 8)))

/-- What ends REQUEST and WAKEUP (R142, R144): a payload of the expected length is handed on uninterpreted with ACK, without a CRC
check; another length and a bare 4-bit ACK fault with RX_LENGTH (decision D17); a 4-bit NAK is the result and STATE stays; a
zero-bit receive gives NAK-timeout and Disconnected. -/
def Obligations.PlainReceiveEnds : Prop :=
  ∀ (s : State) (w : Await) (n : Nat), s.fault = none → s.await = some w → w.kind = .payload → w.crc = false →
    s.position = .finish n →
    (∀ b ok, exec (.payload b ok) s
      = .next (if b.length = n then ended s (.code .ack) b else faulted .rxLength s)) ∧
    exec .ack s = .next (faulted .rxLength s) ∧
    (∀ i c, nakOf i = some c → exec i s = .next (ended s (.code c) [])) ∧
    exec .timeout s = .next (ended { s with session := .disconnected } (.code .nakTimeout) [])

/-- The select frames (R146, R148): opcode, NVB, up to five UID bytes, with CRC. Outside CONNECT nothing but the frame happens
(log 18). Within CONNECT the receive of the default procedure follows (decision D10, log 12): 40 bits without CRC after an
anticollision request, which carries CRC as the parameter says, 8 bits with CRC after a select. With another SelectProc, CRC and
receive are those of its exchange. -/
def Obligations.SelectFramesAreSent : Prop :=
  ∀ (s : State) (nvb : Byte) (u : List Byte), s.fault = none → s.attached = true → s.await = none →
    s.sentAll = true →
    (s.position = .idle →
      exec (.selectL1 nvb u) s = .next { s with
        env := s.afterSent.env, events := wireTx s (0x93 :: nvb :: u) (16 + 8 * u.length) :: s.events } ∧
      exec (.selectL2 nvb u) s = .next { s with
        env := s.afterSent.env, events := wireTx s (0x95 :: nvb :: u) (16 + 8 * u.length) :: s.events }) ∧
    (∀ l, s.position = .anticoll l → s.params.anticollCrc = true →
      exec (.selectL1 nvb u) s = .next (waiting s (wireTx s (0x93 :: nvb :: u) (16 + 8 * u.length)) (.receive 40)
        ⟨40, false, .payload⟩ (.anticoll l)) ∧
      exec (.selectL2 nvb u) s = .next (waiting s (wireTx s (0x95 :: nvb :: u) (16 + 8 * u.length)) (.receive 40)
        ⟨40, false, .payload⟩ (.anticoll l))) ∧
    (∀ l, s.position = .anticoll l → s.params.anticollCrc = false →
      exec (.selectL1 nvb u) s = .next (waiting s (.transmit ⟨0x93 :: nvb :: u, 16 + 8 * u.length⟩) (.receive 40)
        ⟨40, false, .payload⟩ (.anticoll l)) ∧
      exec (.selectL2 nvb u) s = .next (waiting s (.transmit ⟨0x95 :: nvb :: u, 16 + 8 * u.length⟩) (.receive 40)
        ⟨40, false, .payload⟩ (.anticoll l))) ∧
    (∀ l r, s.position = .select l r →
      exec (.selectL1 nvb u) s = .next (waiting s (wireTx s (0x93 :: nvb :: u) (16 + 8 * u.length)) (wireRx s 8)
        ⟨8, true, .payload⟩ (.select l r)) ∧
      exec (.selectL2 nvb u) s = .next (waiting s (wireTx s (0x95 :: nvb :: u) (16 + 8 * u.length)) (wireRx s 8)
        ⟨8, true, .payload⟩ (.select l r))) ∧
    (∀ k ask answers, s.position = .procedure k ask answers → (ask.rxCrc = true → ask.rxBits % 8 = 0) →
      exec (.selectL1 nvb u) s = .next (waiting s (sentAs s ask.txCrc (0x93 :: nvb :: u) (16 + 8 * u.length))
        (askedAs s ask.rxCrc ask.rxBits) ⟨ask.rxBits, ask.rxCrc, .payload⟩ (.procedure k ask answers)) ∧
      exec (.selectL2 nvb u) s = .next (waiting s (sentAs s ask.txCrc (0x95 :: nvb :: u) (16 + 8 * u.length))
        (askedAs s ask.rxCrc ask.rxBits) ⟨ask.rxBits, ask.rxCrc, .payload⟩ (.procedure k ask answers)))

/-- CONNECT runs in Requested: with the default SelectProc it puts the level-1 anticollision request into the TX buffer, with
another it does what that procedure begins with (decision D10, log 12); in any other STATE it faults with SEQ_VIOLATION and
makes no transport call. -/
def Obligations.ConnectStartsInRequested : Prop :=
  ∀ s : State, s.accepting →
    (∀ k, s.session = .requested → s.params.selectProc = .custom k →
      exec .connect s = .next (procedureGoesOn k [] s)) ∧
    (s.session = .requested → s.params.selectProc = .standard →
      exec .connect s = .next { s with position := .anticoll .one, txbuf := some ⟨[0x93, 0x20], 16⟩ }) ∧
    (s.session ≠ .requested → exec .connect s = .next (faulted .seqViolation s))

/-- CONNECT as a whole with the default procedure (R150, decision D10, log 12), in both CRC modes and with either CRC of its
anticollision requests (log 9). From a session in Requested at rest, with the four frames sent and well-formed answers of both
cascade levels, nine steps take the command from the port, make four transmits, four receives and two collision probes, write
all seven UID bytes at once, and end in Selected with ACK: connected and awake, not authenticated. -/
def Obligations.ConnectCapturesTheUid : Prop :=
  ∀ (s : State) (u : Uid) (sak1 sak2 : Byte), s.atRest → s.attached = true → s.session = .requested →
    s.params.selectProc = .standard →
    s.cmd = [(⟨[0xE1], 8⟩ : Frame)] → sak1.getLsbD 2 = true → sak2.getLsbD 2 = false →
    s.env = ⟨[true, true, true, true],
      [⟨40, [0x88, u.head.b0, u.head.b1, u.head.b2, 0x88 ^^^ u.head.b0 ^^^ u.head.b1 ^^^ u.head.b2], true⟩,
        goodAnswer s [sak1],
        ⟨40, u.tail.toList ++ [u.tail.b0 ^^^ u.tail.b1 ^^^ u.tail.b2 ^^^ u.tail.b3], true⟩,
        goodAnswer s [sak2]],
      [false, false], 0⟩ →
    ∃ t, runSteps 9 s = .next t ∧ t.uid = u ∧ t.session = .selected ∧ t.result = .code .ack ∧ t.rxlen = 0 ∧
      t.connected = true ∧ t.awake = true ∧ t.authenticated = false ∧
      t.atRest ∧ t.settings = s.settings ∧ t.variant = s.variant ∧ t.cmd = [] ∧
      t.events =
        [.result (.code .ack), wireRx s 8,
          wireTx s ([0x95, 0x70] ++ u.tail.toList ++ [u.tail.b0 ^^^ u.tail.b1 ^^^ u.tail.b2 ^^^ u.tail.b3]) 56,
          .probe, .receive 40, sentAs s s.params.anticollCrc [0x95, 0x20] 16, wireRx s 8,
          wireTx s ([0x93, 0x70, 0x88] ++ u.head.toList
            ++ [0x88 ^^^ u.head.b0 ^^^ u.head.b1 ^^^ u.head.b2]) 56,
          .probe, .receive 40, sentAs s s.params.anticollCrc [0x93, 0x20] 16] ++ s.events

/-- Where CONNECT with the default procedure stops (R150, decision D10, log 12), in both CRC modes: a 4-bit NAK, a zero-bit receive
and a select acknowledge with a failed CRC end it with that code, UID unwritten; after an anticollision answer, a bare 4-bit ACK
among them, a detected collision has no meaning; an answer of the wrong length, with a wrong check byte, without the cascade tag
at level 1, or with the wrong completion bit, and a bare 4-bit ACK in place of either answer, fault with SELECT_MALFORMED. -/
def Obligations.ConnectStopsOnBadAnswers : Prop :=
  ∀ (s : State) (w : Await) (l : Cascade), s.fault = none → s.await = some w → w.kind = .payload →
    (s.position = .anticoll l → w.crc = false →
      (∀ i c, nakOf i = some c → exec i s = .next (ended s (.code c) [])) ∧
      exec .timeout s = .next (ended { s with session := .disconnected } (.code .nakTimeout) []) ∧
      (s.collides = true → (∀ b ok, exec (.payload b ok) s = .refused .collision) ∧
        exec .ack s = .refused .collision) ∧
      (s.collides = false →
        (∀ b ok, b.length ≠ 5 → exec (.payload b ok) s = .next (faulted .selectMalformed (probed s))) ∧
        (∀ r0 r1 r2 r3 x ok, r0 ^^^ r1 ^^^ r2 ^^^ r3 ≠ x ∨ (l = .one ∧ r0 ≠ 0x88) →
          exec (.payload [r0, r1, r2, r3, x] ok) s = .next (faulted .selectMalformed (probed s))) ∧
        exec .ack s = .next (faulted .selectMalformed (probed s)))) ∧
    (∀ r, s.position = .select l r → w.crc = true →
      (∀ i c, nakOf i = some c → exec i s = .next (ended s (.code c) [])) ∧
      exec .timeout s = .next (ended { s with session := .disconnected } (.code .nakTimeout) []) ∧
      (∀ b ok, (s.crcMode = .sw → ¬ crcPasses s b) → (s.crcMode = .hw → ok = false) →
        exec (.payload b ok) s = .next (ended s (.code .nakCrc) [])) ∧
      (∀ b, b.length ≠ 1 ∨ (∃ sak : Byte, b = [sak] ∧ sak.getLsbD 2 ≠ decide (l = .one)) →
        (∀ ok, s.crcMode = .sw → exec (.payload (b ++ [lo8 (s.crc16 b), hi8 (s.crc16 b)]) ok) s
          = .next (faulted .selectMalformed s)) ∧
        (s.crcMode = .hw → exec (.payload b true) s = .next (faulted .selectMalformed s))) ∧
      exec .ack s = .next (faulted .selectMalformed s))

/-- CONNECT with a SelectProc other than the default one (R150, decision D10, log 12), after a receive, whatever the procedure is:
an accepted answer, a bare 4-bit ACK among them, takes it on, after a collision probe where its exchange asks for one; a
detected collision has no meaning; a failed CRC, a 4-bit NAK and a zero-bit receive end the command with their code, UID
unwritten. -/
def Obligations.ConnectFollowsItsProcedure : Prop :=
  ∀ (s : State) (w : Await) (k : Nat) (ask : SelectAsk) (answers : List (Option (List Byte))),
    s.fault = none → s.await = some w → w.kind = .payload → s.position = .procedure k ask answers →
    ((ask.probe = true → s.collides = false) →
      (∀ b ok, w.crc = false →
        exec (.payload b ok) s = .next (procedureGoesOn k (answers ++ [some b]) (answered ask s))) ∧
      (∀ b ok, w.crc = true → s.crcMode = .sw → exec (.payload (b ++ [lo8 (s.crc16 b), hi8 (s.crc16 b)]) ok) s
        = .next (procedureGoesOn k (answers ++ [some b]) (answered ask s))) ∧
      (∀ b, w.crc = true → s.crcMode = .hw →
        exec (.payload b true) s = .next (procedureGoesOn k (answers ++ [some b]) (answered ask s))) ∧
      exec .ack s = .next (procedureGoesOn k (answers ++ [none]) (answered ask s))) ∧
    (ask.probe = true → s.collides = true →
      (∀ b ok, w.crc = false → exec (.payload b ok) s = .refused .collision) ∧
      exec .ack s = .refused .collision) ∧
    (∀ b ok, w.crc = true → (s.crcMode = .sw → ¬ crcPasses s b) → (s.crcMode = .hw → ok = false) →
      exec (.payload b ok) s = .next (ended s (.code .nakCrc) [])) ∧
    (∀ i c, nakOf i = some c → exec i s = .next (ended s (.code c) [])) ∧
    exec .timeout s = .next (ended { s with session := .disconnected } (.code .nakTimeout) [])

/-- HALT on a connected session sends its frame, makes no receive, leaves STATE Halted and answers ACK (decision D9); the views
CONNECTED, AWAKE and AUTHENTICATED are then false and UID and SETTINGS are kept. When the frame is not sent whole it faults with
STATE unchanged (D18). -/
def Obligations.HaltSleeps : Prop :=
  ∀ s : State, s.accepting → s.connected = true →
    (s.sentAll = true → ∃ t, exec .halt s = .next t ∧
      t = ended { s with
        session := .halted, env := s.afterSent.env, events := wireTx s [0x50] 8 :: s.events } (.code .ack) [] ∧
      t.connected = false ∧ t.awake = false ∧ t.authenticated = false) ∧
    (s.sentAll = false → exec .halt s = .next (cutShort s (wireTx s [0x50] 8)))

/-- DISCONNECT and DESTROY run in every STATE and make no transport call (decisions D21, D22): DISCONNECT leaves Disconnected and
keeps UID and SETTINGS; DESTROY clears UID, restores the default settings and leaves Idle; VARIANT, TRANSPORT and CRC_MODE are
kept. -/
def Obligations.DisconnectAndDestroy : Prop :=
  ∀ s : State, s.accepting →
    exec .disconnect s = .next (ended { s with session := .disconnected } (.code .ack) []) ∧
    exec .destroy s = .next (ended { s with
      session := .idle, uid := ⟨⟨0, 0, 0⟩, ⟨0, 0, 0, 0⟩⟩, settings := Settings.default } (.code .ack) [])

/-- R158: a zero-bit receive moves any running command's session to Disconnected, ends that command with NAK-timeout and without a
further exchange, and hands nothing on. -/
def Obligations.TimeoutDisconnects : Prop :=
  ∀ (s : State) (w : Await), listens s w →
    exec .timeout s = .next (ended { s with session := .disconnected } (.code .nakTimeout) [])

/-- R249: after a link failure the session stays Disconnected until REQUEST, WAKEUP, DESTROY or ATTACH, and every gated command
ends with NAK-disconnected without touching the transport. -/
def Obligations.LinkFailureNeedsReconnect : Prop :=
  (∀ (s : State) (w : Await), listens s w →
    ∃ t, exec .timeout s = .next t ∧ t.session = .disconnected ∧ t.connected = false ∧
      t.result = .code .nakTimeout) ∧
  (∀ (i : Instr) (s t : State), s.accepting → s.session = .disconnected → exec i s = .next t →
    i ≠ .request → i ≠ .wakeup → i ≠ .destroy → (∀ v tr m, i ≠ .attach v tr m) → t.session = .disconnected) ∧
  (∀ (i : Instr) (s : State), gated i = true → s.accepting → s.session = .disconnected →
    ∃ t, exec i s = .next t ∧ t.result = .code .nakDisconnected ∧
      t.events = .result (.code .nakDisconnected) :: s.events)

/-! ### Read commands -/

/-- GET_VERSION, READ, READ_CNT and READ_SIG on a connected session (R170, R174; the lengths of READ_CNT and READ_SIG are open
parameters, D14, log 9): one frame with CRC, then one receive with CRC of the expected payload; nothing else changes. -/
def Obligations.ReadCommandsListen : Prop :=
  ∀ s : State, s.accepting → s.connected = true → s.sentAll = true →
    exec .getVersion s
      = .next (waiting s (wireTx s [0x60] 8) (wireRx s 64) ⟨64, true, .payload⟩ (.finish 8)) ∧
    (∀ p, exec (.read p) s
      = .next (waiting s (wireTx s [0x30, p] 16) (wireRx s 128) ⟨128, true, .payload⟩ (.finish 16))) ∧
    (∀ n, s.params.cntBits % 8 = 0 → exec (.readCnt n) s
      = .next (waiting s (wireTx s [0x39, n] 16) (wireRx s s.params.cntBits) ⟨s.params.cntBits, true, .payload⟩
        (.finish (s.params.cntBits / 8)))) ∧
    (s.params.sigBits % 8 = 0 → exec .readSig s
      = .next (waiting s (wireTx s [0x3C, 0x00] 16) (wireRx s s.params.sigBits)
        ⟨s.params.sigBits, true, .payload⟩ (.finish (s.params.sigBits / 8))))

/-- FAST_READ (R176, R97): exactly `(stop - start + 1) * 32` response bits are requested, computed without wrap, at most 8192;
`stop < start` faults with ARG_RANGE before any transport call, but after the gate. -/
def Obligations.FastReadRequestsItsRange : Prop :=
  ∀ (s : State) (a e : Byte), s.accepting →
    (s.connected = false → exec (.fastRead a e) s = .next (ended s (.code .nakDisconnected) [])) ∧
    (s.connected = true → e.toNat < a.toNat → exec (.fastRead a e) s = .next (faulted .argRange s)) ∧
    (∀ k : Nat, s.connected = true → s.sentAll = true → e.toNat + 1 = a.toNat + k → 0 < k →
      k * 32 ≤ 8192 ∧
      exec (.fastRead a e) s
        = .next (waiting s (wireTx s [0x3A, a, e] 24) (wireRx s (k * 32)) ⟨k * 32, true, .payload⟩
          (.finish (k * 4))))

/-- What ends the five read commands (R169, R120): a payload whose CRC passes and whose length is the expected one is handed on
unchanged with ACK; another length, and a bare 4-bit ACK, fault with RX_LENGTH (decision D17); a failed CRC gives NAK-CRC and no
payload; a 4-bit NAK is the result; a zero-bit receive gives NAK-timeout and Disconnected. -/
def Obligations.PayloadReceiveEnds : Prop :=
  ∀ (s : State) (w : Await) (n : Nat), s.fault = none → s.await = some w → w.kind = .payload → w.crc = true →
    s.position = .finish n →
    (∀ b ok, s.crcMode = .sw → exec (.payload (b ++ [lo8 (s.crc16 b), hi8 (s.crc16 b)]) ok) s
      = .next (if b.length = n then ended s (.code .ack) b else faulted .rxLength s)) ∧
    (∀ r ok, s.crcMode = .sw → ¬ crcPasses s r → exec (.payload r ok) s = .next (ended s (.code .nakCrc) [])) ∧
    (∀ b, s.crcMode = .hw → exec (.payload b true) s
      = .next (if b.length = n then ended s (.code .ack) b else faulted .rxLength s)) ∧
    (∀ b, s.crcMode = .hw → exec (.payload b false) s = .next (ended s (.code .nakCrc) [])) ∧
    exec .ack s = .next (faulted .rxLength s) ∧
    (∀ i c, nakOf i = some c → exec i s = .next (ended s (.code c) [])) ∧
    exec .timeout s = .next (ended { s with session := .disconnected } (.code .nakTimeout) [])

/-- R182 for the command rows of the five read commands, which run up to the receive's answer (log 4): until then none of them
writes UID, SETTINGS, VARIANT or STATE; on a connected session each causes exactly one transmit call and, unless it faults,
exactly one receive call; on an unconnected one it causes no call and answers NAK-disconnected. On a zero-bit answer the
TIMEOUT row writes STATE (R69, R169), which PayloadReceiveEnds says. -/
def Obligations.ReadCommandsAreOneExchange : Prop :=
  ∀ (i : Instr) (s t : State),
    i = .getVersion ∨ (∃ p, i = .read p) ∨ (∃ a e, i = .fastRead a e) ∨ (∃ n, i = .readCnt n) ∨ i = .readSig →
    s.accepting → exec i s = .next t →
    t.uid = s.uid ∧ t.settings = s.settings ∧ t.session = s.session ∧ t.variant = s.variant ∧
    (s.connected = true → t.fault = none →
      ∃ tx rx, frameOf tx ≠ none ∧ isReceive rx = true ∧ t.events = rx :: tx :: s.events ∧ t.position ≠ .idle) ∧
    (s.connected = true → t.fault ≠ none → t.events = s.events ∨
      ∃ tx, frameOf tx ≠ none ∧ (t.events = tx :: s.events)) ∧
    (s.connected = false → t.events = .result (.code .nakDisconnected) :: s.events)

/-- READ as a whole (R174), on a session in `SW` mode: from the port to the result in two steps, with the sixteen bytes of the
answer delivered unchanged. -/
def Obligations.ReadDeliversSixteenBytes : Prop :=
  ∀ (s : State) (page : Byte) (d : Bytes16) (rest : List Answer), s.atRest → s.attached = true →
    s.connected = true → s.crcMode = .sw → s.sentAll = true → s.cmd = [(⟨[0x30, page], 16⟩ : Frame)] →
    s.env.rx = ⟨144, d.toList ++ [lo8 (s.crc16 d.toList), hi8 (s.crc16 d.toList)], false⟩ :: rest →
    runSteps 2 s = .next { ended s (.code .ack) d.toList with
      cmd := [], env := { s.afterSent.env with rx := rest },
      events := [.result (.code .ack), .receive 144,
        .transmit ⟨[0x30, page, lo8 (s.crc16 [0x30, page]), hi8 (s.crc16 [0x30, page])], 32⟩] ++ s.events }

/-! ### Write commands -/

/-- WRITE and the two phases of COMP_WRITE (R190, R194; the phase-2 receive is decision D13): one frame with CRC, then a 4-bit
acknowledgement-only receive without CRC. Phase 2 is sent only from the position an acknowledged phase 1 leaves; elsewhere the
data frame is refused, which is the model's reading (log 18). -/
def Obligations.WriteCommandsListen : Prop :=
  (∀ s : State, s.accepting → s.connected = true → s.sentAll = true →
    (∀ p d, exec (.write p d) s = .next (waiting s (wireTx s [0xA2, p, d.b0, d.b1, d.b2, d.b3] 48) (.receive 4)
      ⟨4, false, .ackOnly⟩ .finishAck)) ∧
    (∀ p d, exec (.compWriteP1 p d) s = .next (waiting s (wireTx s [0xA0, p] 16) (.receive 4)
      ⟨4, false, .ackOnly⟩ (.compPhase1 d)))) ∧
  (∀ (s : State) (d : Bytes16), s.fault = none → s.await = none → s.position = .compPhase2 → s.sentAll = true →
    exec (.compWriteP2 d) s = .next (waiting s (wireTx s d.toList 128) (.receive 4) ⟨4, false, .ackOnly⟩ .finishAck)) ∧
  (∀ (s : State) (d : Bytes16), s.fault = none → s.position ≠ .compPhase2 →
    exec (.compWriteP2 d) s = .refused .noPhaseOne)

/-- What ends WRITE and phase 2 of COMP_WRITE (R189, R120): the 4-bit ACK gives ACK; a 4-bit NAK its code; a full-byte answer,
0x0A included, gives NOISE_CODE, which is never ACK (decision D15, log 9); zero bits give NAK-timeout and Disconnected. No
payload is delivered and SETTINGS is not written. -/
def Obligations.AckReceiveEnds : Prop :=
  ∀ s : State, s.await = some ⟨4, false, .ackOnly⟩ → s.position = .finishAck →
    exec .ack s = .next (ended s (.code .ack) []) ∧
    (∀ i c, nakOf i = some c → exec i s = .next (ended s (.code c) [])) ∧
    (∀ b ok, ∃ c, c ≠ .ack ∧ c = noiseCode s.params.noise ∧
      exec (.payload b ok) s = .next (ended s (.code c) [])) ∧
    exec .timeout s = .next (ended { s with session := .disconnected } (.code .nakTimeout) [])

/-- R196: phase 2 follows if and only if phase 1 was acknowledged with ACK, and the inverted check of the original is not
reproduced: after any other answer the command ends, with no frame left to send. -/
def Obligations.PhaseTwoOnlyOnAck : Prop :=
  ∀ (s : State) (d : Bytes16), s.await = some ⟨4, false, .ackOnly⟩ → s.position = .compPhase1 d →
    exec .ack s = .next { s with
      await := none, position := .compPhase2, txbuf := some (Frame.ofBytes d.toList) } ∧
    (∀ (i : Instr) (t : State), isResponse i = true → i ≠ .ack → exec i s = .next t →
      t.txbuf = none ∧ t.position = .idle ∧ t.result ≠ .code .ack ∧
      ∃ r, t.events = .result r :: s.events) ∧
    (∀ i c, nakOf i = some c → exec i s = .next (ended s (.code c) []))

/-- COMP_WRITE as a whole (R194, D13): from the port to ACK in four steps, with exactly two transmits and two receives. -/
def Obligations.CompWriteTwoPhases : Prop :=
  ∀ (s : State) (page : Byte) (d : Bytes16) (rest : List Answer) (x y : Bool), s.atRest → s.attached = true →
    s.connected = true → s.cmd = [Frame.ofBytes ([0xA0, page] ++ d.toList)] → s.env.sent = [true, true] →
    s.env.rx = ⟨4, [0x0A], x⟩ :: ⟨4, [0x0A], y⟩ :: rest →
    runSteps 4 s = .next { ended s (.code .ack) [] with
      cmd := [], env := { s.env with sent := [], rx := rest },
      events := [.result (.code .ack), .receive 4, wireTx s d.toList 128, .receive 4, wireTx s [0xA0, page] 16]
        ++ s.events }

/-! ### Authentication -/

/-- PWD_AUTH on a connected session sends the four operand bytes in index order (D11) and calls a receive of 16 bits with CRC;
SETTINGS, the stored password among them, and STATE are unchanged. -/
def Obligations.PwdAuthListens : Prop :=
  ∀ (s : State) (w : Bytes4), s.accepting → s.connected = true → s.sentAll = true →
    exec (.pwdAuth w) s = .next (waiting s (wireTx s [0x1B, w.b0, w.b1, w.b2, w.b3] 40) (wireRx s 16)
      ⟨16, true, .payload⟩ .pwdAuth)

/-- R205: PWD_AUTH succeeds only when the decoder says ACK and the two bytes equal SETTINGS.PACK: it then leaves Authenticated,
the view AUTHENTICATED true (R29), delivers the two bytes and answers ACK. No other answer does: in `SW` mode the bytes arrive
with their CRC trailer, in `HW` mode they are the stripped payload of a passed check. Every other answer that is a response row
(log 4: a 4-bit code, whole bytes, or zero bits) is a failure result, delivers nothing, leaves no session in Authenticated
(demotion is decision D12, log 24) and raises no fault, so never RX_LENGTH. An answer that is no response row is not spoken of
here: it raises RX_MALFORMED or RESERVED_NIBBLE, and STATE is not written. -/
def Obligations.PwdAuthSucceedsOnlyOnPack : Prop :=
  ∀ (s : State) (w : Await), s.fault = none → s.await = some w → w.kind = .payload → w.crc = true →
    s.position = .pwdAuth →
    (∀ ok, s.crcMode = .sw →
      exec (.payload (s.settings.pack.toList
          ++ [lo8 (s.crc16 s.settings.pack.toList), hi8 (s.crc16 s.settings.pack.toList)]) ok) s
        = .next (ended { s with session := .authenticated } (.code .ack) s.settings.pack.toList)) ∧
    (s.crcMode = .hw → exec (.payload s.settings.pack.toList true) s
      = .next (ended { s with session := .authenticated } (.code .ack) s.settings.pack.toList)) ∧
    (∀ (i : Instr), isResponse i = true →
      (∃ t, exec i s = .next t ∧ t.fault = none ∧
        ((t.session = .authenticated ∧ t.authenticated = true ∧ t.result = .code .ack ∧
            t.rxbuf = s.settings.pack.toList ∧
            ((s.crcMode = .sw ∧ ∃ ok, i = .payload (s.settings.pack.toList
                ++ [lo8 (s.crc16 s.settings.pack.toList), hi8 (s.crc16 s.settings.pack.toList)]) ok) ∨
              (s.crcMode = .hw ∧ i = .payload s.settings.pack.toList true))) ∨
          (t.session ≠ .authenticated ∧ t.result ≠ .code .ack ∧ t.rxlen = 0 ∧ t.settings = s.settings))))

/-- R209: an answer the decoder accepts with bytes that are not the expected two is not success: the result is AUTH_MISMATCH,
which differs from all seven Acknowledgement Codes. That another length and a bare 4-bit ACK are such answers is R205 (b)
with decision D17, and that the session is not in Authenticated afterwards is decision D12 (log 24). -/
def Obligations.MismatchIsNotSuccess : Prop :=
  (∀ c : AckCode, Result.authMismatch ≠ .code c) ∧
  (∀ (s : State) (w : Await), s.await = some w → w.kind = .payload → w.crc = true → s.position = .pwdAuth →
    (∀ b ok, s.crcMode = .sw → b ≠ s.settings.pack.toList →
      ∃ t, exec (.payload (b ++ [lo8 (s.crc16 b), hi8 (s.crc16 b)]) ok) s = .next t ∧ t.result = .authMismatch ∧
        t.rxlen = 0 ∧ t.authenticated = false) ∧
    (∀ b, s.crcMode = .hw → b ≠ s.settings.pack.toList →
      ∃ t, exec (.payload b true) s = .next t ∧ t.result = .authMismatch ∧ t.rxlen = 0 ∧ t.authenticated = false) ∧
    (∃ t, exec .ack s = .next t ∧ t.result = .authMismatch ∧ t.rxlen = 0 ∧ t.authenticated = false)) ∧
  (∀ (i : Instr) (s t : State), exec i s = .next t → t.result = .authMismatch →
    s.result = .authMismatch ∨ s.position = .pwdAuth)

/-! ### Settings macros -/

/-- READ_SETTINGS and WRITE_SETTINGS on a connected session begin their expansion (R101): the READ of the base page, or the WRITE
of the first packed page, is put into the TX buffer; CFG_LOCK, in SETTINGS or in the operand, plays no part (R36). An iteration
keeps the position of the macro (decision D25). -/
def Obligations.SettingsMacrosBegin : Prop :=
  ∀ s : State, s.accepting → s.connected = true →
    exec .readSettings s = .next { s with
      position := .readSettings [], txbuf := some ⟨[0x30, cfgBase s.variant], 16⟩ } ∧
    (∀ r, exec (.writeSettings r) s = .next { s with
      position := .writeSettings r 0,
      txbuf := some ⟨0xA2 :: cfgBase s.variant :: (pack s.params.codec r).p0.toList, 48⟩ }) ∧
    (∀ p done, s.sentAll = true → exec (.read p) { s with position := .readSettings done }
      = .next (waiting s (wireTx s [0x30, p] 16) (wireRx s 128) ⟨128, true, .payload⟩ (.readSettings done))) ∧
    (∀ p d r k, s.sentAll = true → exec (.write p d) { s with position := .writeSettings r k }
      = .next (waiting s (wireTx s [0xA2, p, d.b0, d.b1, d.b2, d.b3] 48) (.receive 4) ⟨4, false, .ackOnly⟩
        (.writeSettings r k)))

/-- READ_SETTINGS as a whole (R220, decision D25), on a session in `HW` mode: nine steps from the port to ACK, four READs of the
pages base to base + 3, and SETTINGS is the record unpacked from the first four bytes of each answer, which are delivered. -/
def Obligations.ReadSettingsCollectsFourPages : Prop :=
  ∀ (s : State) (img : Bytes16) (w0 w1 w2 w3 : List Byte), s.atRest → s.attached = true → s.connected = true →
    s.crcMode = .hw → s.cmd = [(⟨[0xE4], 8⟩ : Frame)] → w0.length = 12 → w1.length = 12 → w2.length = 12 →
    w3.length = 12 →
    s.env = ⟨[true, true, true, true],
      [⟨128, img.p0.toList ++ w0, true⟩, ⟨128, img.p1.toList ++ w1, true⟩, ⟨128, img.p2.toList ++ w2, true⟩,
        ⟨128, img.p3.toList ++ w3, true⟩], [], 0⟩ →
    runSteps 9 s = .next { ended s (.code .ack) img.toList with
      settings := unpack s.params.codec img, cmd := [], env := ⟨[], [], [], 0⟩,
      events := [.result (.code .ack),
        .receiveCrc 128, .transmitCrc ⟨[0x30, cfgBase s.variant + 3], 16⟩,
        .receiveCrc 128, .transmitCrc ⟨[0x30, cfgBase s.variant + 2], 16⟩,
        .receiveCrc 128, .transmitCrc ⟨[0x30, cfgBase s.variant + 1], 16⟩,
        .receiveCrc 128, .transmitCrc ⟨[0x30, cfgBase s.variant], 16⟩] ++ s.events }

/-- WRITE_SETTINGS as a whole (R224, X9; the update of SETTINGS is decision D25), in both CRC modes, for every record and every
codec: with four acknowledgements exactly four writes in ascending page order and SETTINGS is the record; with NAK-write-error
at the second, the third and fourth are never issued, NAK-write-error is the result, and SETTINGS is unchanged. -/
def Obligations.WriteSettingsFourWrites : Prop :=
  ∀ (s : State) (r : Settings), s.atRest → s.attached = true → s.connected = true →
    s.cmd = [Frame.ofBytes (0xE5 :: (packStandard r).toList)] →
    s.env.sent = [true, true, true, true] →
    ((∃ x, s.env.rx = [⟨4, [0x0A], x⟩, ⟨4, [0x0A], x⟩, ⟨4, [0x0A], x⟩, ⟨4, [0x0A], x⟩]) →
      runSteps 9 s = .next { ended s (.code .ack) [] with
        settings := r, cmd := [], env := { s.env with sent := [], rx := [] },
        events := [.result (.code .ack),
          .receive 4,
          wireTx s ([0xA2, cfgBase s.variant + 3] ++ (pack s.params.codec r).p3.toList) 48,
          .receive 4,
          wireTx s ([0xA2, cfgBase s.variant + 2] ++ (pack s.params.codec r).p2.toList) 48,
          .receive 4,
          wireTx s ([0xA2, cfgBase s.variant + 1] ++ (pack s.params.codec r).p1.toList) 48,
          .receive 4,
          wireTx s ([0xA2, cfgBase s.variant] ++ (pack s.params.codec r).p0.toList) 48] ++ s.events }) ∧
    ((∃ x, s.env.rx = [⟨4, [0x0A], x⟩, ⟨4, [0x05], x⟩]) →
      runSteps 5 s = .next { ended s (.code .nakWriteError) [] with
        cmd := [], env := { s.env with sent := [true, true], rx := [] },
        events := [.result (.code .nakWriteError),
          .receive 4,
          wireTx s ([0xA2, cfgBase s.variant + 1] ++ (pack s.params.codec r).p1.toList) 48,
          .receive 4,
          wireTx s ([0xA2, cfgBase s.variant] ++ (pack s.params.codec r).p0.toList) 48] ++ s.events })

/-- The settings macros stop at the first result other than ACK (R220, R224): at any iteration a 4-bit NAK, a zero-bit receive, a
payload with a failed CRC (READ_SETTINGS) and a full-byte answer in place of the acknowledgement (WRITE_SETTINGS: NOISE_CODE,
which is never ACK, decision D15, log 9) end the macro with that result, SETTINGS unchanged and no frame left to send; a bare
ACK in place of a page faults with RX_LENGTH (decision D17). Whatever ends the macro otherwise than by ACK leaves SETTINGS
as it was. -/
def Obligations.SettingsMacrosStopAtFirstNak : Prop :=
  ∀ (s : State) (w : Await), s.await = some w → s.fault = none →
    (∃ done, s.position = .readSettings done) ∨ (∃ r k, s.position = .writeSettings r k) →
    (∀ i c, nakOf i = some c → exec i s = .next (ended s (.code c) [])) ∧
    exec .timeout s = .next (ended { s with session := .disconnected } (.code .nakTimeout) []) ∧
    (∀ r k b ok, s.position = .writeSettings r k → w.kind = .ackOnly →
      noiseCode s.params.noise ≠ .ack ∧
      exec (.payload b ok) s = .next (ended s (.code (noiseCode s.params.noise)) [])) ∧
    (∀ done, s.position = .readSettings done →
      (∀ b ok, w.kind = .payload → w.crc = true → (s.crcMode = .sw → ¬ crcPasses s b) →
        (s.crcMode = .hw → ok = false) → exec (.payload b ok) s = .next (ended s (.code .nakCrc) [])) ∧
      exec .ack s = .next (faulted .rxLength s)) ∧
    (∀ (i : Instr) (t : State), isResponse i = true → exec i s = .next t → t.position = .idle →
      t.result ≠ .code .ack ∨ t.fault ≠ none → t.settings = s.settings ∧ t.txbuf = none ∧ t.await = none)

/-! ### Faults of an exchange -/

/-- A frame that the transport does not send whole faults with TX_INCOMPLETE before any receive is called (decision D18): the
frame of every gated command but HALT, the READs and WRITEs of the settings macros, and the select frames, within CONNECT and
outside it (log 18). (REQUEST, WAKEUP and HALT have it in their own statements.) A receive with CRC of a length that is no
multiple of 8 (possible only with an open parameter of that kind or a procedure that asks for one, log 9, log 12) faults with
CRC_UNALIGNED before the receive is called (R115). Nothing else but the history is written. -/
def Obligations.FaultyExchangesStopBeforeTheReceive : Prop :=
  (∀ s : State, s.accepting → s.connected = true → s.sentAll = false →
    exec .getVersion s = .next (cutShort s (wireTx s [0x60] 8)) ∧
    (∀ p, exec (.read p) s = .next (cutShort s (wireTx s [0x30, p] 16))) ∧
    (∀ a e, a.toNat ≤ e.toNat → exec (.fastRead a e) s = .next (cutShort s (wireTx s [0x3A, a, e] 24))) ∧
    (∀ n, exec (.readCnt n) s = .next (cutShort s (wireTx s [0x39, n] 16))) ∧
    exec .readSig s = .next (cutShort s (wireTx s [0x3C, 0x00] 16)) ∧
    (∀ p d, exec (.write p d) s = .next (cutShort s (wireTx s [0xA2, p, d.b0, d.b1, d.b2, d.b3] 48))) ∧
    (∀ p d, exec (.compWriteP1 p d) s = .next (cutShort s (wireTx s [0xA0, p] 16))) ∧
    (∀ w, exec (.pwdAuth w) s = .next (cutShort s (wireTx s [0x1B, w.b0, w.b1, w.b2, w.b3] 40))) ∧
    (∀ d, exec (.compWriteP2 d) { s with position := .compPhase2 } = .next (cutShort s (wireTx s d.toList 128))) ∧
    (∀ p done, exec (.read p) { s with position := .readSettings done }
      = .next (cutShort s (wireTx s [0x30, p] 16))) ∧
    (∀ p d r k, exec (.write p d) { s with position := .writeSettings r k }
      = .next (cutShort s (wireTx s [0xA2, p, d.b0, d.b1, d.b2, d.b3] 48)))) ∧
  (∀ (s : State) (nvb : Byte) (u : List Byte) (crc : Bool), s.fault = none → s.attached = true → s.await = none →
    s.sentAll = false →
    (s.position = .idle ∧ crc = true) ∨ (∃ l, s.position = .anticoll l ∧ crc = s.params.anticollCrc) ∨
      (∃ l r, s.position = .select l r ∧ crc = true) ∨
      (∃ k ask answers, s.position = .procedure k ask answers ∧ crc = ask.txCrc) →
    exec (.selectL1 nvb u) s = .next (cutShort s (sentAs s crc (0x93 :: nvb :: u) (16 + 8 * u.length))) ∧
    exec (.selectL2 nvb u) s = .next (cutShort s (sentAs s crc (0x95 :: nvb :: u) (16 + 8 * u.length)))) ∧
  (∀ s : State, s.accepting → s.connected = true → s.sentAll = true →
    (∀ n, s.params.cntBits % 8 ≠ 0 → exec (.readCnt n) s = .next (faulted .crcUnaligned
      { s with env := s.afterSent.env, events := wireTx s [0x39, n] 16 :: s.events })) ∧
    (s.params.sigBits % 8 ≠ 0 → exec .readSig s = .next (faulted .crcUnaligned
      { s with env := s.afterSent.env, events := wireTx s [0x3C, 0x00] 16 :: s.events }))) ∧
  (∀ (s : State) (nvb : Byte) (u : List Byte) (k : Nat) (ask : SelectAsk) (answers : List (Option (List Byte))),
    s.fault = none → s.attached = true → s.await = none → s.sentAll = true → s.position = .procedure k ask answers →
    ask.rxCrc = true → ask.rxBits % 8 ≠ 0 →
    exec (.selectL1 nvb u) s = .next (faulted .crcUnaligned { s with
      env := s.afterSent.env, events := sentAs s ask.txCrc (0x93 :: nvb :: u) (16 + 8 * u.length) :: s.events }) ∧
    exec (.selectL2 nvb u) s = .next (faulted .crcUnaligned { s with
      env := s.afterSent.env, events := sentAs s ask.txCrc (0x95 :: nvb :: u) (16 + 8 * u.length) :: s.events }))

/-! ### Operands -/

/-- A command of the port whose data operand is absent (decision D33; the port words are the model's, log 7, log 21): after the
gate it faults with BUF_EMPTY, and no transport call is made. -/
def Obligations.AbsentOperandFaults : Prop :=
  ∀ (s : State) (page : Byte) (f : Frame),
    f = ⟨[0xA2, page], 16⟩ ∨ f = ⟨[0xA0, page], 16⟩ ∨ f = ⟨[0x1B], 8⟩ ∨ f = ⟨[0xE5], 8⟩ →
    s.atRest → s.attached = true → s.cmd = [f] →
    (s.connected = true → step s = .next (faulted .bufEmpty { s with cmd := [] })) ∧
    (s.connected = false → step s = .next (ended { s with cmd := [] } (.code .nakDisconnected) []))
end

