-- ==== Sys2Proof/Laws/State.lean ====
section
/-! SUPPORT. One lemma for each field under each named update of the state, true by `rfl` and in the simp set, so that no
proof unfolds a record update; and the same for the views that read several fields. -/

namespace Sys2Proof.Machine

variable (s : State)

@[simp] theorem State.record_attached (e : Event) : (s.record e).attached = s.attached := rfl
@[simp] theorem State.record_variant (e : Event) : (s.record e).variant = s.variant := rfl
@[simp] theorem State.record_transport (e : Event) : (s.record e).transport = s.transport := rfl
@[simp] theorem State.record_crcMode (e : Event) : (s.record e).crcMode = s.crcMode := rfl
@[simp] theorem State.record_session (e : Event) : (s.record e).session = s.session := rfl
@[simp] theorem State.record_uid (e : Event) : (s.record e).uid = s.uid := rfl
@[simp] theorem State.record_settings (e : Event) : (s.record e).settings = s.settings := rfl
@[simp] theorem State.record_result (e : Event) : (s.record e).result = s.result := rfl
@[simp] theorem State.record_rxbuf (e : Event) : (s.record e).rxbuf = s.rxbuf := rfl
@[simp] theorem State.record_rxlen (e : Event) : (s.record e).rxlen = s.rxlen := rfl
@[simp] theorem State.record_fault (e : Event) : (s.record e).fault = s.fault := rfl
@[simp] theorem State.record_txbuf (e : Event) : (s.record e).txbuf = s.txbuf := rfl
@[simp] theorem State.record_position (e : Event) : (s.record e).position = s.position := rfl
@[simp] theorem State.record_await (e : Event) : (s.record e).await = s.await := rfl
@[simp] theorem State.record_cmd (e : Event) : (s.record e).cmd = s.cmd := rfl
@[simp] theorem State.record_env (e : Event) : (s.record e).env = s.env := rfl
@[simp] theorem State.record_events (e : Event) : (s.record e).events = e :: s.events := rfl
@[simp] theorem State.record_params (e : Event) : (s.record e).params = s.params := rfl
@[simp] theorem State.record_connected (e : Event) : (s.record e).connected = s.connected := rfl
@[simp] theorem State.record_crc16 (e : Event) : (s.record e).crc16 = s.crc16 := rfl
@[simp] theorem State.record_sentAll (e : Event) : (s.record e).sentAll = s.sentAll := rfl
@[simp] theorem State.record_collides (e : Event) : (s.record e).collides = s.collides := rfl
@[simp] theorem State.record_answer (e : Event) : (s.record e).answer = s.answer := rfl

@[simp] theorem State.setSession_attached (x : Session) : (s.setSession x).attached = s.attached := rfl
@[simp] theorem State.setSession_variant (x : Session) : (s.setSession x).variant = s.variant := rfl
@[simp] theorem State.setSession_transport (x : Session) : (s.setSession x).transport = s.transport := rfl
@[simp] theorem State.setSession_crcMode (x : Session) : (s.setSession x).crcMode = s.crcMode := rfl
@[simp] theorem State.setSession_session (x : Session) : (s.setSession x).session = x := rfl
@[simp] theorem State.setSession_uid (x : Session) : (s.setSession x).uid = s.uid := rfl
@[simp] theorem State.setSession_settings (x : Session) : (s.setSession x).settings = s.settings := rfl
@[simp] theorem State.setSession_result (x : Session) : (s.setSession x).result = s.result := rfl
@[simp] theorem State.setSession_rxbuf (x : Session) : (s.setSession x).rxbuf = s.rxbuf := rfl
@[simp] theorem State.setSession_rxlen (x : Session) : (s.setSession x).rxlen = s.rxlen := rfl
@[simp] theorem State.setSession_fault (x : Session) : (s.setSession x).fault = s.fault := rfl
@[simp] theorem State.setSession_txbuf (x : Session) : (s.setSession x).txbuf = s.txbuf := rfl
@[simp] theorem State.setSession_position (x : Session) : (s.setSession x).position = s.position := rfl
@[simp] theorem State.setSession_await (x : Session) : (s.setSession x).await = s.await := rfl
@[simp] theorem State.setSession_cmd (x : Session) : (s.setSession x).cmd = s.cmd := rfl
@[simp] theorem State.setSession_env (x : Session) : (s.setSession x).env = s.env := rfl
@[simp] theorem State.setSession_events (x : Session) : (s.setSession x).events = s.events := rfl
@[simp] theorem State.setSession_params (x : Session) : (s.setSession x).params = s.params := rfl
@[simp] theorem State.setSession_crc16 (x : Session) : (s.setSession x).crc16 = s.crc16 := rfl
@[simp] theorem State.setSession_sentAll (x : Session) : (s.setSession x).sentAll = s.sentAll := rfl
@[simp] theorem State.setSession_collides (x : Session) : (s.setSession x).collides = s.collides := rfl
@[simp] theorem State.setSession_answer (x : Session) : (s.setSession x).answer = s.answer := rfl

@[simp] theorem State.setUid_attached (u : Uid) : (s.setUid u).attached = s.attached := rfl
@[simp] theorem State.setUid_variant (u : Uid) : (s.setUid u).variant = s.variant := rfl
@[simp] theorem State.setUid_transport (u : Uid) : (s.setUid u).transport = s.transport := rfl
@[simp] theorem State.setUid_crcMode (u : Uid) : (s.setUid u).crcMode = s.crcMode := rfl
@[simp] theorem State.setUid_session (u : Uid) : (s.setUid u).session = s.session := rfl
@[simp] theorem State.setUid_uid (u : Uid) : (s.setUid u).uid = u := rfl
@[simp] theorem State.setUid_settings (u : Uid) : (s.setUid u).settings = s.settings := rfl
@[simp] theorem State.setUid_result (u : Uid) : (s.setUid u).result = s.result := rfl
@[simp] theorem State.setUid_rxbuf (u : Uid) : (s.setUid u).rxbuf = s.rxbuf := rfl
@[simp] theorem State.setUid_rxlen (u : Uid) : (s.setUid u).rxlen = s.rxlen := rfl
@[simp] theorem State.setUid_fault (u : Uid) : (s.setUid u).fault = s.fault := rfl
@[simp] theorem State.setUid_txbuf (u : Uid) : (s.setUid u).txbuf = s.txbuf := rfl
@[simp] theorem State.setUid_position (u : Uid) : (s.setUid u).position = s.position := rfl
@[simp] theorem State.setUid_await (u : Uid) : (s.setUid u).await = s.await := rfl
@[simp] theorem State.setUid_cmd (u : Uid) : (s.setUid u).cmd = s.cmd := rfl
@[simp] theorem State.setUid_env (u : Uid) : (s.setUid u).env = s.env := rfl
@[simp] theorem State.setUid_events (u : Uid) : (s.setUid u).events = s.events := rfl
@[simp] theorem State.setUid_params (u : Uid) : (s.setUid u).params = s.params := rfl
@[simp] theorem State.setUid_connected (u : Uid) : (s.setUid u).connected = s.connected := rfl
@[simp] theorem State.setUid_crc16 (u : Uid) : (s.setUid u).crc16 = s.crc16 := rfl
@[simp] theorem State.setUid_sentAll (u : Uid) : (s.setUid u).sentAll = s.sentAll := rfl
@[simp] theorem State.setUid_collides (u : Uid) : (s.setUid u).collides = s.collides := rfl
@[simp] theorem State.setUid_answer (u : Uid) : (s.setUid u).answer = s.answer := rfl

@[simp] theorem State.setSettings_attached (r : Settings) : (s.setSettings r).attached = s.attached := rfl
@[simp] theorem State.setSettings_variant (r : Settings) : (s.setSettings r).variant = s.variant := rfl
@[simp] theorem State.setSettings_transport (r : Settings) : (s.setSettings r).transport = s.transport := rfl
@[simp] theorem State.setSettings_crcMode (r : Settings) : (s.setSettings r).crcMode = s.crcMode := rfl
@[simp] theorem State.setSettings_session (r : Settings) : (s.setSettings r).session = s.session := rfl
@[simp] theorem State.setSettings_uid (r : Settings) : (s.setSettings r).uid = s.uid := rfl
@[simp] theorem State.setSettings_settings (r : Settings) : (s.setSettings r).settings = r := rfl
@[simp] theorem State.setSettings_result (r : Settings) : (s.setSettings r).result = s.result := rfl
@[simp] theorem State.setSettings_rxbuf (r : Settings) : (s.setSettings r).rxbuf = s.rxbuf := rfl
@[simp] theorem State.setSettings_rxlen (r : Settings) : (s.setSettings r).rxlen = s.rxlen := rfl
@[simp] theorem State.setSettings_fault (r : Settings) : (s.setSettings r).fault = s.fault := rfl
@[simp] theorem State.setSettings_txbuf (r : Settings) : (s.setSettings r).txbuf = s.txbuf := rfl
@[simp] theorem State.setSettings_position (r : Settings) : (s.setSettings r).position = s.position := rfl
@[simp] theorem State.setSettings_await (r : Settings) : (s.setSettings r).await = s.await := rfl
@[simp] theorem State.setSettings_cmd (r : Settings) : (s.setSettings r).cmd = s.cmd := rfl
@[simp] theorem State.setSettings_env (r : Settings) : (s.setSettings r).env = s.env := rfl
@[simp] theorem State.setSettings_events (r : Settings) : (s.setSettings r).events = s.events := rfl
@[simp] theorem State.setSettings_params (r : Settings) : (s.setSettings r).params = s.params := rfl
@[simp] theorem State.setSettings_connected (r : Settings) : (s.setSettings r).connected = s.connected := rfl
@[simp] theorem State.setSettings_crc16 (r : Settings) : (s.setSettings r).crc16 = s.crc16 := rfl
@[simp] theorem State.setSettings_sentAll (r : Settings) : (s.setSettings r).sentAll = s.sentAll := rfl
@[simp] theorem State.setSettings_collides (r : Settings) : (s.setSettings r).collides = s.collides := rfl
@[simp] theorem State.setSettings_answer (r : Settings) : (s.setSettings r).answer = s.answer := rfl

@[simp] theorem State.clearFault_attached : (s.clearFault).attached = s.attached := rfl
@[simp] theorem State.clearFault_variant : (s.clearFault).variant = s.variant := rfl
@[simp] theorem State.clearFault_transport : (s.clearFault).transport = s.transport := rfl
@[simp] theorem State.clearFault_crcMode : (s.clearFault).crcMode = s.crcMode := rfl
@[simp] theorem State.clearFault_session : (s.clearFault).session = s.session := rfl
@[simp] theorem State.clearFault_uid : (s.clearFault).uid = s.uid := rfl
@[simp] theorem State.clearFault_settings : (s.clearFault).settings = s.settings := rfl
@[simp] theorem State.clearFault_result : (s.clearFault).result = s.result := rfl
@[simp] theorem State.clearFault_rxbuf : (s.clearFault).rxbuf = s.rxbuf := rfl
@[simp] theorem State.clearFault_rxlen : (s.clearFault).rxlen = s.rxlen := rfl
@[simp] theorem State.clearFault_fault : (s.clearFault).fault = none := rfl
@[simp] theorem State.clearFault_txbuf : (s.clearFault).txbuf = s.txbuf := rfl
@[simp] theorem State.clearFault_position : (s.clearFault).position = s.position := rfl
@[simp] theorem State.clearFault_await : (s.clearFault).await = s.await := rfl
@[simp] theorem State.clearFault_cmd : (s.clearFault).cmd = s.cmd := rfl
@[simp] theorem State.clearFault_env : (s.clearFault).env = s.env := rfl
@[simp] theorem State.clearFault_events : (s.clearFault).events = s.events := rfl
@[simp] theorem State.clearFault_params : (s.clearFault).params = s.params := rfl
@[simp] theorem State.clearFault_connected : (s.clearFault).connected = s.connected := rfl
@[simp] theorem State.clearFault_crc16 : (s.clearFault).crc16 = s.crc16 := rfl
@[simp] theorem State.clearFault_sentAll : (s.clearFault).sentAll = s.sentAll := rfl
@[simp] theorem State.clearFault_collides : (s.clearFault).collides = s.collides := rfl
@[simp] theorem State.clearFault_answer : (s.clearFault).answer = s.answer := rfl

@[simp] theorem State.goto_attached (p : Position) : (s.goto p).attached = s.attached := rfl
@[simp] theorem State.goto_variant (p : Position) : (s.goto p).variant = s.variant := rfl
@[simp] theorem State.goto_transport (p : Position) : (s.goto p).transport = s.transport := rfl
@[simp] theorem State.goto_crcMode (p : Position) : (s.goto p).crcMode = s.crcMode := rfl
@[simp] theorem State.goto_session (p : Position) : (s.goto p).session = s.session := rfl
@[simp] theorem State.goto_uid (p : Position) : (s.goto p).uid = s.uid := rfl
@[simp] theorem State.goto_settings (p : Position) : (s.goto p).settings = s.settings := rfl
@[simp] theorem State.goto_result (p : Position) : (s.goto p).result = s.result := rfl
@[simp] theorem State.goto_rxbuf (p : Position) : (s.goto p).rxbuf = s.rxbuf := rfl
@[simp] theorem State.goto_rxlen (p : Position) : (s.goto p).rxlen = s.rxlen := rfl
@[simp] theorem State.goto_fault (p : Position) : (s.goto p).fault = s.fault := rfl
@[simp] theorem State.goto_txbuf (p : Position) : (s.goto p).txbuf = s.txbuf := rfl
@[simp] theorem State.goto_position (p : Position) : (s.goto p).position = p := rfl
@[simp] theorem State.goto_await (p : Position) : (s.goto p).await = s.await := rfl
@[simp] theorem State.goto_cmd (p : Position) : (s.goto p).cmd = s.cmd := rfl
@[simp] theorem State.goto_env (p : Position) : (s.goto p).env = s.env := rfl
@[simp] theorem State.goto_events (p : Position) : (s.goto p).events = s.events := rfl
@[simp] theorem State.goto_params (p : Position) : (s.goto p).params = s.params := rfl
@[simp] theorem State.goto_connected (p : Position) : (s.goto p).connected = s.connected := rfl
@[simp] theorem State.goto_crc16 (p : Position) : (s.goto p).crc16 = s.crc16 := rfl
@[simp] theorem State.goto_sentAll (p : Position) : (s.goto p).sentAll = s.sentAll := rfl
@[simp] theorem State.goto_collides (p : Position) : (s.goto p).collides = s.collides := rfl
@[simp] theorem State.goto_answer (p : Position) : (s.goto p).answer = s.answer := rfl

@[simp] theorem State.load_attached (f : Frame) : (s.load f).attached = s.attached := rfl
@[simp] theorem State.load_variant (f : Frame) : (s.load f).variant = s.variant := rfl
@[simp] theorem State.load_transport (f : Frame) : (s.load f).transport = s.transport := rfl
@[simp] theorem State.load_crcMode (f : Frame) : (s.load f).crcMode = s.crcMode := rfl
@[simp] theorem State.load_session (f : Frame) : (s.load f).session = s.session := rfl
@[simp] theorem State.load_uid (f : Frame) : (s.load f).uid = s.uid := rfl
@[simp] theorem State.load_settings (f : Frame) : (s.load f).settings = s.settings := rfl
@[simp] theorem State.load_result (f : Frame) : (s.load f).result = s.result := rfl
@[simp] theorem State.load_rxbuf (f : Frame) : (s.load f).rxbuf = s.rxbuf := rfl
@[simp] theorem State.load_rxlen (f : Frame) : (s.load f).rxlen = s.rxlen := rfl
@[simp] theorem State.load_fault (f : Frame) : (s.load f).fault = s.fault := rfl
@[simp] theorem State.load_txbuf (f : Frame) : (s.load f).txbuf = some f := rfl
@[simp] theorem State.load_position (f : Frame) : (s.load f).position = s.position := rfl
@[simp] theorem State.load_await (f : Frame) : (s.load f).await = s.await := rfl
@[simp] theorem State.load_cmd (f : Frame) : (s.load f).cmd = s.cmd := rfl
@[simp] theorem State.load_env (f : Frame) : (s.load f).env = s.env := rfl
@[simp] theorem State.load_events (f : Frame) : (s.load f).events = s.events := rfl
@[simp] theorem State.load_params (f : Frame) : (s.load f).params = s.params := rfl
@[simp] theorem State.load_connected (f : Frame) : (s.load f).connected = s.connected := rfl
@[simp] theorem State.load_crc16 (f : Frame) : (s.load f).crc16 = s.crc16 := rfl
@[simp] theorem State.load_sentAll (f : Frame) : (s.load f).sentAll = s.sentAll := rfl
@[simp] theorem State.load_collides (f : Frame) : (s.load f).collides = s.collides := rfl
@[simp] theorem State.load_answer (f : Frame) : (s.load f).answer = s.answer := rfl

@[simp] theorem State.unload_attached : (s.unload).attached = s.attached := rfl
@[simp] theorem State.unload_variant : (s.unload).variant = s.variant := rfl
@[simp] theorem State.unload_transport : (s.unload).transport = s.transport := rfl
@[simp] theorem State.unload_crcMode : (s.unload).crcMode = s.crcMode := rfl
@[simp] theorem State.unload_session : (s.unload).session = s.session := rfl
@[simp] theorem State.unload_uid : (s.unload).uid = s.uid := rfl
@[simp] theorem State.unload_settings : (s.unload).settings = s.settings := rfl
@[simp] theorem State.unload_result : (s.unload).result = s.result := rfl
@[simp] theorem State.unload_rxbuf : (s.unload).rxbuf = s.rxbuf := rfl
@[simp] theorem State.unload_rxlen : (s.unload).rxlen = s.rxlen := rfl
@[simp] theorem State.unload_fault : (s.unload).fault = s.fault := rfl
@[simp] theorem State.unload_txbuf : (s.unload).txbuf = none := rfl
@[simp] theorem State.unload_position : (s.unload).position = s.position := rfl
@[simp] theorem State.unload_await : (s.unload).await = s.await := rfl
@[simp] theorem State.unload_cmd : (s.unload).cmd = s.cmd := rfl
@[simp] theorem State.unload_env : (s.unload).env = s.env := rfl
@[simp] theorem State.unload_events : (s.unload).events = s.events := rfl
@[simp] theorem State.unload_params : (s.unload).params = s.params := rfl
@[simp] theorem State.unload_connected : (s.unload).connected = s.connected := rfl
@[simp] theorem State.unload_crc16 : (s.unload).crc16 = s.crc16 := rfl
@[simp] theorem State.unload_sentAll : (s.unload).sentAll = s.sentAll := rfl
@[simp] theorem State.unload_collides : (s.unload).collides = s.collides := rfl
@[simp] theorem State.unload_answer : (s.unload).answer = s.answer := rfl

@[simp] theorem State.takeCmd_attached : (s.takeCmd).attached = s.attached := rfl
@[simp] theorem State.takeCmd_variant : (s.takeCmd).variant = s.variant := rfl
@[simp] theorem State.takeCmd_transport : (s.takeCmd).transport = s.transport := rfl
@[simp] theorem State.takeCmd_crcMode : (s.takeCmd).crcMode = s.crcMode := rfl
@[simp] theorem State.takeCmd_session : (s.takeCmd).session = s.session := rfl
@[simp] theorem State.takeCmd_uid : (s.takeCmd).uid = s.uid := rfl
@[simp] theorem State.takeCmd_settings : (s.takeCmd).settings = s.settings := rfl
@[simp] theorem State.takeCmd_result : (s.takeCmd).result = s.result := rfl
@[simp] theorem State.takeCmd_rxbuf : (s.takeCmd).rxbuf = s.rxbuf := rfl
@[simp] theorem State.takeCmd_rxlen : (s.takeCmd).rxlen = s.rxlen := rfl
@[simp] theorem State.takeCmd_fault : (s.takeCmd).fault = s.fault := rfl
@[simp] theorem State.takeCmd_txbuf : (s.takeCmd).txbuf = s.txbuf := rfl
@[simp] theorem State.takeCmd_position : (s.takeCmd).position = s.position := rfl
@[simp] theorem State.takeCmd_await : (s.takeCmd).await = s.await := rfl
@[simp] theorem State.takeCmd_cmd : (s.takeCmd).cmd = s.cmd.tail := rfl
@[simp] theorem State.takeCmd_env : (s.takeCmd).env = s.env := rfl
@[simp] theorem State.takeCmd_events : (s.takeCmd).events = s.events := rfl
@[simp] theorem State.takeCmd_params : (s.takeCmd).params = s.params := rfl
@[simp] theorem State.takeCmd_connected : (s.takeCmd).connected = s.connected := rfl
@[simp] theorem State.takeCmd_crc16 : (s.takeCmd).crc16 = s.crc16 := rfl
@[simp] theorem State.takeCmd_sentAll : (s.takeCmd).sentAll = s.sentAll := rfl
@[simp] theorem State.takeCmd_collides : (s.takeCmd).collides = s.collides := rfl
@[simp] theorem State.takeCmd_answer : (s.takeCmd).answer = s.answer := rfl

@[simp] theorem State.arm_attached (a : Await) : (s.arm a).attached = s.attached := rfl
@[simp] theorem State.arm_variant (a : Await) : (s.arm a).variant = s.variant := rfl
@[simp] theorem State.arm_transport (a : Await) : (s.arm a).transport = s.transport := rfl
@[simp] theorem State.arm_crcMode (a : Await) : (s.arm a).crcMode = s.crcMode := rfl
@[simp] theorem State.arm_session (a : Await) : (s.arm a).session = s.session := rfl
@[simp] theorem State.arm_uid (a : Await) : (s.arm a).uid = s.uid := rfl
@[simp] theorem State.arm_settings (a : Await) : (s.arm a).settings = s.settings := rfl
@[simp] theorem State.arm_result (a : Await) : (s.arm a).result = s.result := rfl
@[simp] theorem State.arm_rxbuf (a : Await) : (s.arm a).rxbuf = s.rxbuf := rfl
@[simp] theorem State.arm_rxlen (a : Await) : (s.arm a).rxlen = s.rxlen := rfl
@[simp] theorem State.arm_fault (a : Await) : (s.arm a).fault = s.fault := rfl
@[simp] theorem State.arm_txbuf (a : Await) : (s.arm a).txbuf = s.txbuf := rfl
@[simp] theorem State.arm_position (a : Await) : (s.arm a).position = s.position := rfl
@[simp] theorem State.arm_await (a : Await) : (s.arm a).await = some a := rfl
@[simp] theorem State.arm_cmd (a : Await) : (s.arm a).cmd = s.cmd := rfl
@[simp] theorem State.arm_env (a : Await) : (s.arm a).env = s.env := rfl
@[simp] theorem State.arm_events (a : Await) : (s.arm a).events = s.events := rfl
@[simp] theorem State.arm_params (a : Await) : (s.arm a).params = s.params := rfl
@[simp] theorem State.arm_connected (a : Await) : (s.arm a).connected = s.connected := rfl
@[simp] theorem State.arm_crc16 (a : Await) : (s.arm a).crc16 = s.crc16 := rfl
@[simp] theorem State.arm_sentAll (a : Await) : (s.arm a).sentAll = s.sentAll := rfl
@[simp] theorem State.arm_collides (a : Await) : (s.arm a).collides = s.collides := rfl
@[simp] theorem State.arm_answer (a : Await) : (s.arm a).answer = s.answer := rfl

@[simp] theorem State.disarm_attached : (s.disarm).attached = s.attached := rfl
@[simp] theorem State.disarm_variant : (s.disarm).variant = s.variant := rfl
@[simp] theorem State.disarm_transport : (s.disarm).transport = s.transport := rfl
@[simp] theorem State.disarm_crcMode : (s.disarm).crcMode = s.crcMode := rfl
@[simp] theorem State.disarm_session : (s.disarm).session = s.session := rfl
@[simp] theorem State.disarm_uid : (s.disarm).uid = s.uid := rfl
@[simp] theorem State.disarm_settings : (s.disarm).settings = s.settings := rfl
@[simp] theorem State.disarm_result : (s.disarm).result = s.result := rfl
@[simp] theorem State.disarm_rxbuf : (s.disarm).rxbuf = s.rxbuf := rfl
@[simp] theorem State.disarm_rxlen : (s.disarm).rxlen = s.rxlen := rfl
@[simp] theorem State.disarm_fault : (s.disarm).fault = s.fault := rfl
@[simp] theorem State.disarm_txbuf : (s.disarm).txbuf = s.txbuf := rfl
@[simp] theorem State.disarm_position : (s.disarm).position = s.position := rfl
@[simp] theorem State.disarm_await : (s.disarm).await = none := rfl
@[simp] theorem State.disarm_cmd : (s.disarm).cmd = s.cmd := rfl
@[simp] theorem State.disarm_env : (s.disarm).env = s.env := rfl
@[simp] theorem State.disarm_events : (s.disarm).events = s.events := rfl
@[simp] theorem State.disarm_params : (s.disarm).params = s.params := rfl
@[simp] theorem State.disarm_connected : (s.disarm).connected = s.connected := rfl
@[simp] theorem State.disarm_crc16 : (s.disarm).crc16 = s.crc16 := rfl
@[simp] theorem State.disarm_sentAll : (s.disarm).sentAll = s.sentAll := rfl
@[simp] theorem State.disarm_collides : (s.disarm).collides = s.collides := rfl
@[simp] theorem State.disarm_answer : (s.disarm).answer = s.answer := rfl

@[simp] theorem State.complete_attached (r : Result) (b : List Byte) : (s.complete r b).attached = s.attached := rfl
@[simp] theorem State.complete_variant (r : Result) (b : List Byte) : (s.complete r b).variant = s.variant := rfl
@[simp] theorem State.complete_transport (r : Result) (b : List Byte) : (s.complete r b).transport = s.transport := rfl
@[simp] theorem State.complete_crcMode (r : Result) (b : List Byte) : (s.complete r b).crcMode = s.crcMode := rfl
@[simp] theorem State.complete_session (r : Result) (b : List Byte) : (s.complete r b).session = s.session := rfl
@[simp] theorem State.complete_uid (r : Result) (b : List Byte) : (s.complete r b).uid = s.uid := rfl
@[simp] theorem State.complete_settings (r : Result) (b : List Byte) : (s.complete r b).settings = s.settings := rfl
@[simp] theorem State.complete_result (r : Result) (b : List Byte) : (s.complete r b).result = r := rfl
@[simp] theorem State.complete_rxbuf (r : Result) (b : List Byte) : (s.complete r b).rxbuf = b := rfl
@[simp] theorem State.complete_rxlen (r : Result) (b : List Byte) : (s.complete r b).rxlen = b.length := rfl
@[simp] theorem State.complete_fault (r : Result) (b : List Byte) : (s.complete r b).fault = s.fault := rfl
@[simp] theorem State.complete_txbuf (r : Result) (b : List Byte) : (s.complete r b).txbuf = none := rfl
@[simp] theorem State.complete_position (r : Result) (b : List Byte) : (s.complete r b).position = .idle := rfl
@[simp] theorem State.complete_await (r : Result) (b : List Byte) : (s.complete r b).await = none := rfl
@[simp] theorem State.complete_cmd (r : Result) (b : List Byte) : (s.complete r b).cmd = s.cmd := rfl
@[simp] theorem State.complete_env (r : Result) (b : List Byte) : (s.complete r b).env = s.env := rfl
@[simp] theorem State.complete_events (r : Result) (b : List Byte) : (s.complete r b).events = .result r :: s.events := rfl
@[simp] theorem State.complete_params (r : Result) (b : List Byte) : (s.complete r b).params = s.params := rfl
@[simp] theorem State.complete_connected (r : Result) (b : List Byte) : (s.complete r b).connected = s.connected := rfl
@[simp] theorem State.complete_crc16 (r : Result) (b : List Byte) : (s.complete r b).crc16 = s.crc16 := rfl
@[simp] theorem State.complete_sentAll (r : Result) (b : List Byte) : (s.complete r b).sentAll = s.sentAll := rfl
@[simp] theorem State.complete_collides (r : Result) (b : List Byte) : (s.complete r b).collides = s.collides := rfl
@[simp] theorem State.complete_answer (r : Result) (b : List Byte) : (s.complete r b).answer = s.answer := rfl

@[simp] theorem State.raised_attached (k : FaultKind) : (s.raised k).attached = s.attached := rfl
@[simp] theorem State.raised_variant (k : FaultKind) : (s.raised k).variant = s.variant := rfl
@[simp] theorem State.raised_transport (k : FaultKind) : (s.raised k).transport = s.transport := rfl
@[simp] theorem State.raised_crcMode (k : FaultKind) : (s.raised k).crcMode = s.crcMode := rfl
@[simp] theorem State.raised_session (k : FaultKind) : (s.raised k).session = s.session := rfl
@[simp] theorem State.raised_uid (k : FaultKind) : (s.raised k).uid = s.uid := rfl
@[simp] theorem State.raised_settings (k : FaultKind) : (s.raised k).settings = s.settings := rfl
@[simp] theorem State.raised_result (k : FaultKind) : (s.raised k).result = s.result := rfl
@[simp] theorem State.raised_rxbuf (k : FaultKind) : (s.raised k).rxbuf = s.rxbuf := rfl
@[simp] theorem State.raised_rxlen (k : FaultKind) : (s.raised k).rxlen = s.rxlen := rfl
@[simp] theorem State.raised_txbuf (k : FaultKind) : (s.raised k).txbuf = none := rfl
@[simp] theorem State.raised_position (k : FaultKind) : (s.raised k).position = .idle := rfl
@[simp] theorem State.raised_await (k : FaultKind) : (s.raised k).await = none := rfl
@[simp] theorem State.raised_cmd (k : FaultKind) : (s.raised k).cmd = s.cmd := rfl
@[simp] theorem State.raised_env (k : FaultKind) : (s.raised k).env = s.env := rfl
@[simp] theorem State.raised_events (k : FaultKind) : (s.raised k).events = s.events := rfl
@[simp] theorem State.raised_params (k : FaultKind) : (s.raised k).params = s.params := rfl
@[simp] theorem State.raised_connected (k : FaultKind) : (s.raised k).connected = s.connected := rfl
@[simp] theorem State.raised_crc16 (k : FaultKind) : (s.raised k).crc16 = s.crc16 := rfl
@[simp] theorem State.raised_sentAll (k : FaultKind) : (s.raised k).sentAll = s.sentAll := rfl
@[simp] theorem State.raised_collides (k : FaultKind) : (s.raised k).collides = s.collides := rfl
@[simp] theorem State.raised_answer (k : FaultKind) : (s.raised k).answer = s.answer := rfl

@[simp] theorem State.create_attached (v : Variant) (t : Transport) (m : CrcMode) : (s.create v t m).attached = true := rfl
@[simp] theorem State.create_variant (v : Variant) (t : Transport) (m : CrcMode) : (s.create v t m).variant = v := rfl
@[simp] theorem State.create_transport (v : Variant) (t : Transport) (m : CrcMode) : (s.create v t m).transport = t := rfl
@[simp] theorem State.create_crcMode (v : Variant) (t : Transport) (m : CrcMode) : (s.create v t m).crcMode = m := rfl
@[simp] theorem State.create_session (v : Variant) (t : Transport) (m : CrcMode) : (s.create v t m).session = .idle := rfl
@[simp] theorem State.create_uid (v : Variant) (t : Transport) (m : CrcMode) : (s.create v t m).uid = State.reset.uid := rfl
@[simp] theorem State.create_settings (v : Variant) (t : Transport) (m : CrcMode) : (s.create v t m).settings = Settings.default := rfl
@[simp] theorem State.create_result (v : Variant) (t : Transport) (m : CrcMode) : (s.create v t m).result = .code .ack := rfl
@[simp] theorem State.create_rxbuf (v : Variant) (t : Transport) (m : CrcMode) : (s.create v t m).rxbuf = [] := rfl
@[simp] theorem State.create_rxlen (v : Variant) (t : Transport) (m : CrcMode) : (s.create v t m).rxlen = 0 := rfl
@[simp] theorem State.create_fault (v : Variant) (t : Transport) (m : CrcMode) : (s.create v t m).fault = none := rfl
@[simp] theorem State.create_txbuf (v : Variant) (t : Transport) (m : CrcMode) : (s.create v t m).txbuf = none := rfl
@[simp] theorem State.create_position (v : Variant) (t : Transport) (m : CrcMode) : (s.create v t m).position = .idle := rfl
@[simp] theorem State.create_await (v : Variant) (t : Transport) (m : CrcMode) : (s.create v t m).await = none := rfl
@[simp] theorem State.create_cmd (v : Variant) (t : Transport) (m : CrcMode) : (s.create v t m).cmd = s.cmd := rfl
@[simp] theorem State.create_env (v : Variant) (t : Transport) (m : CrcMode) : (s.create v t m).env = s.env := rfl
@[simp] theorem State.create_events (v : Variant) (t : Transport) (m : CrcMode) : (s.create v t m).events = .result (.code .ack) :: s.events := rfl
@[simp] theorem State.create_params (v : Variant) (t : Transport) (m : CrcMode) : (s.create v t m).params = s.params := rfl
@[simp] theorem State.create_sentAll (v : Variant) (t : Transport) (m : CrcMode) : (s.create v t m).sentAll = s.sentAll := rfl
@[simp] theorem State.create_collides (v : Variant) (t : Transport) (m : CrcMode) : (s.create v t m).collides = s.collides := rfl
@[simp] theorem State.create_answer (v : Variant) (t : Transport) (m : CrcMode) : (s.create v t m).answer = s.answer := rfl

@[simp] theorem State.afterSent_attached : (s.afterSent).attached = s.attached := rfl
@[simp] theorem State.afterSent_variant : (s.afterSent).variant = s.variant := rfl
@[simp] theorem State.afterSent_transport : (s.afterSent).transport = s.transport := rfl
@[simp] theorem State.afterSent_crcMode : (s.afterSent).crcMode = s.crcMode := rfl
@[simp] theorem State.afterSent_session : (s.afterSent).session = s.session := rfl
@[simp] theorem State.afterSent_uid : (s.afterSent).uid = s.uid := rfl
@[simp] theorem State.afterSent_settings : (s.afterSent).settings = s.settings := rfl
@[simp] theorem State.afterSent_result : (s.afterSent).result = s.result := rfl
@[simp] theorem State.afterSent_rxbuf : (s.afterSent).rxbuf = s.rxbuf := rfl
@[simp] theorem State.afterSent_rxlen : (s.afterSent).rxlen = s.rxlen := rfl
@[simp] theorem State.afterSent_fault : (s.afterSent).fault = s.fault := rfl
@[simp] theorem State.afterSent_txbuf : (s.afterSent).txbuf = s.txbuf := rfl
@[simp] theorem State.afterSent_position : (s.afterSent).position = s.position := rfl
@[simp] theorem State.afterSent_await : (s.afterSent).await = s.await := rfl
@[simp] theorem State.afterSent_cmd : (s.afterSent).cmd = s.cmd := rfl
@[simp] theorem State.afterSent_events : (s.afterSent).events = s.events := rfl
@[simp] theorem State.afterSent_params : (s.afterSent).params = s.params := rfl
@[simp] theorem State.afterSent_connected : (s.afterSent).connected = s.connected := rfl
@[simp] theorem State.afterSent_crc16 : (s.afterSent).crc16 = s.crc16 := rfl

@[simp] theorem State.afterProbe_attached : (s.afterProbe).attached = s.attached := rfl
@[simp] theorem State.afterProbe_variant : (s.afterProbe).variant = s.variant := rfl
@[simp] theorem State.afterProbe_transport : (s.afterProbe).transport = s.transport := rfl
@[simp] theorem State.afterProbe_crcMode : (s.afterProbe).crcMode = s.crcMode := rfl
@[simp] theorem State.afterProbe_session : (s.afterProbe).session = s.session := rfl
@[simp] theorem State.afterProbe_uid : (s.afterProbe).uid = s.uid := rfl
@[simp] theorem State.afterProbe_settings : (s.afterProbe).settings = s.settings := rfl
@[simp] theorem State.afterProbe_result : (s.afterProbe).result = s.result := rfl
@[simp] theorem State.afterProbe_rxbuf : (s.afterProbe).rxbuf = s.rxbuf := rfl
@[simp] theorem State.afterProbe_rxlen : (s.afterProbe).rxlen = s.rxlen := rfl
@[simp] theorem State.afterProbe_fault : (s.afterProbe).fault = s.fault := rfl
@[simp] theorem State.afterProbe_txbuf : (s.afterProbe).txbuf = s.txbuf := rfl
@[simp] theorem State.afterProbe_position : (s.afterProbe).position = s.position := rfl
@[simp] theorem State.afterProbe_await : (s.afterProbe).await = s.await := rfl
@[simp] theorem State.afterProbe_cmd : (s.afterProbe).cmd = s.cmd := rfl
@[simp] theorem State.afterProbe_events : (s.afterProbe).events = s.events := rfl
@[simp] theorem State.afterProbe_params : (s.afterProbe).params = s.params := rfl
@[simp] theorem State.afterProbe_connected : (s.afterProbe).connected = s.connected := rfl
@[simp] theorem State.afterProbe_crc16 : (s.afterProbe).crc16 = s.crc16 := rfl

@[simp] theorem State.afterAnswer_attached : (s.afterAnswer).attached = s.attached := rfl
@[simp] theorem State.afterAnswer_variant : (s.afterAnswer).variant = s.variant := rfl
@[simp] theorem State.afterAnswer_transport : (s.afterAnswer).transport = s.transport := rfl
@[simp] theorem State.afterAnswer_crcMode : (s.afterAnswer).crcMode = s.crcMode := rfl
@[simp] theorem State.afterAnswer_session : (s.afterAnswer).session = s.session := rfl
@[simp] theorem State.afterAnswer_uid : (s.afterAnswer).uid = s.uid := rfl
@[simp] theorem State.afterAnswer_settings : (s.afterAnswer).settings = s.settings := rfl
@[simp] theorem State.afterAnswer_result : (s.afterAnswer).result = s.result := rfl
@[simp] theorem State.afterAnswer_rxbuf : (s.afterAnswer).rxbuf = s.rxbuf := rfl
@[simp] theorem State.afterAnswer_rxlen : (s.afterAnswer).rxlen = s.rxlen := rfl
@[simp] theorem State.afterAnswer_fault : (s.afterAnswer).fault = s.fault := rfl
@[simp] theorem State.afterAnswer_txbuf : (s.afterAnswer).txbuf = s.txbuf := rfl
@[simp] theorem State.afterAnswer_position : (s.afterAnswer).position = s.position := rfl
@[simp] theorem State.afterAnswer_await : (s.afterAnswer).await = s.await := rfl
@[simp] theorem State.afterAnswer_cmd : (s.afterAnswer).cmd = s.cmd := rfl
@[simp] theorem State.afterAnswer_events : (s.afterAnswer).events = s.events := rfl
@[simp] theorem State.afterAnswer_params : (s.afterAnswer).params = s.params := rfl
@[simp] theorem State.afterAnswer_connected : (s.afterAnswer).connected = s.connected := rfl
@[simp] theorem State.afterAnswer_crc16 : (s.afterAnswer).crc16 = s.crc16 := rfl

@[simp] theorem State.setSession_connected (x : Session) : (s.setSession x).connected = x.isConnected := rfl

/-- The first fault is the one that is kept (R250). -/
@[simp] theorem State.raised_fault_of_none (k : FaultKind) (h : s.fault = none) : (s.raised k).fault = some k := by
  simp [State.raised, h]

theorem State.raised_fault_isSome (k : FaultKind) : (s.raised k).fault ≠ none := by
  unfold State.raised
  cases s.fault <;> simp

end Sys2Proof.Machine
end

