-- ==== Sys2Proof/Laws/Ops.lean ====
section
/-! SUPPORT. For each shared operation one lemma that says once everything it can do when it answers a next state; proofs
about instructions cite these instead of unfolding the operations. -/

namespace Sys2Proof.Machine

variable {s t : State}

/-- The state after a frame has been handed to the transport. -/
abbrev State.transmitted (s : State) (b : List Byte) (n : Nat) (crc : Bool) : State :=
  (s.record (s.txCall b n crc)).afterSent

/-- The state in which a receive has been called and the command waits at `p`. -/
abbrev State.listening (s : State) (a : Await) (p : Position) : State :=
  ((s.record (s.rxCall a)).arm a).goto p

@[simp] theorem raise_eq (k : FaultKind) (s : State) : raise k s = .next (s.raised k) := rfl

@[simp] theorem finishAck_eq (c : AckCode) (s : State) : finishAck c s = .next (s.complete (.code c) []) := rfl

/-- Acceptance: the session is sound, exists and is free; then either the gate ends the command or its body runs. -/
theorem accept_next {g : Bool} {own : Position → Bool} {body : State → Out}
    (h : accept g own s body = .next t) :
    s.fault = none ∧ s.attached = true ∧ s.ready own = true ∧
      ((g = true ∧ s.connected = false ∧ t = s.complete (.code .nakDisconnected) []) ∨
        ((g = true → s.connected = true) ∧ body s = .next t)) := by
  unfold accept at h
  cases hf : s.fault with
  | some k => simp [hf] at h
  | none =>
    cases ha : s.attached <;> cases hr : s.ready own <;> simp [hf, ha, hr] at h
    by_cases hg : g = true ∧ s.connected = false
    · rw [if_pos hg] at h
      simp at h
      exact ⟨rfl, rfl, rfl, .inl ⟨hg.1, hg.2, h.symm⟩⟩
    · rw [if_neg hg] at h
      exact ⟨rfl, rfl, rfl, .inr ⟨fun hg' => by simpa [hg'] using hg, h⟩⟩

/-- An accepted command runs its body. -/
theorem accept_of {g : Bool} {own : Position → Bool} {body : State → Out} (hf : s.fault = none)
    (ha : s.attached = true) (hr : s.ready own = true) (hg : g = true → s.connected = true) :
    accept g own s body = body s := by
  unfold accept
  cases g <;> simp_all

/-- A gated command on a session that is not connected ends at once (R124). -/
theorem accept_gate {own : Position → Bool} {body : State → Out} (hf : s.fault = none)
    (ha : s.attached = true) (hr : s.ready own = true) (hc : s.connected = false) :
    accept true own s body = .next (s.complete (.code .nakDisconnected) []) := by
  unfold accept
  simp [hf, ha, hr, hc]

/-- A faulted session refuses (R250). -/
theorem accept_faulted {g : Bool} {own : Position → Bool} {body : State → Out} {k : FaultKind}
    (hf : s.fault = some k) : accept g own s body = .refused (.sessionFaulted k) := by
  unfold accept
  simp [hf]

/-- Everything TxFrame can do (R116). -/
theorem txFrame_cases (s : State) (b : List Byte) (n : Nat) (crc : Bool) :
    (n = 0 ∧ txFrame s b n crc = .raised .bufEmpty s) ∨
    (n ≠ 0 ∧ crc = true ∧ n % 8 ≠ 0 ∧ txFrame s b n crc = .raised .crcUnaligned s) ∨
    (n ≠ 0 ∧ (crc = true → n % 8 = 0) ∧ s.sentAll = false ∧
      txFrame s b n crc = .raised .txIncomplete (s.transmitted b n crc)) ∨
    (n ≠ 0 ∧ (crc = true → n % 8 = 0) ∧ s.sentAll = true ∧ txFrame s b n crc = .ok (s.transmitted b n crc)) := by
  unfold txFrame
  by_cases h0 : n = 0
  · simp [h0]
  · by_cases h1 : crc = true ∧ n % 8 ≠ 0
    · simp [h0, h1]
    · have h2 : crc = true → n % 8 = 0 := fun h => by_contra fun h' => h1 ⟨h, h'⟩
      cases s.sentAll <;> simp [h0, h1, State.transmitted] <;> exact h2

/-- Everything an exchange can do up to its receive. -/
theorem exchange_next {b : List Byte} {n : Nat} {crc : Bool} {after : State → State} {a : Await} {p : Position}
    (h : exchange b n crc after a p s = .next t) :
    (n = 0 ∧ t = s.raised .bufEmpty) ∨
    (crc = true ∧ n % 8 ≠ 0 ∧ t = s.raised .crcUnaligned) ∨
    (s.sentAll = false ∧ t = (s.transmitted b n crc).raised .txIncomplete) ∨
    (s.sentAll = true ∧ a.crc = true ∧ a.bits % 8 ≠ 0 ∧
      t = (after (s.transmitted b n crc)).raised .crcUnaligned) ∨
    (s.sentAll = true ∧ t = (after (s.transmitted b n crc)).listening a p) := by
  unfold exchange at h
  rcases txFrame_cases s b n crc with ⟨h0, h1⟩ | ⟨_, h0, h0', h1⟩ | ⟨_, _, h0, h1⟩ | ⟨_, _, h0, h1⟩ <;>
    rw [h1] at h <;> simp only [Call.andThen, raise_eq, Host.Outcome.next.injEq] at h
  · exact .inl ⟨h0, h.symm⟩
  · exact .inr (.inl ⟨h0, h0', h.symm⟩)
  · exact .inr (.inr (.inl ⟨h0, h.symm⟩))
  · unfold callReceive at h
    by_cases hc : a.crc = true ∧ a.bits % 8 ≠ 0
    · simp only [if_pos hc, Host.Outcome.next.injEq] at h
      exact .inr (.inr (.inr (.inl ⟨h0, hc.1, hc.2, h.symm⟩)))
    · simp only [if_neg hc, Host.Outcome.next.injEq] at h
      exact .inr (.inr (.inr (.inr ⟨h0, h.symm⟩)))

/-- An exchange whose frame is sent and whose receive is aligned waits for the answer. -/
theorem exchange_of {b : List Byte} {n : Nat} {crc : Bool} {after : State → State} {a : Await} {p : Position}
    (hn : n ≠ 0) (hc : crc = true → n % 8 = 0) (hs : s.sentAll = true) (ha : a.crc = true → a.bits % 8 = 0) :
    exchange b n crc after a p s = .next ((after (s.transmitted b n crc)).listening a p) := by
  unfold exchange txFrame
  have h1 : ¬(crc = true ∧ n % 8 ≠ 0) := fun h => h.2 (hc h.1)
  have h2 : ¬(a.crc = true ∧ a.bits % 8 ≠ 0) := fun h => h.2 (ha h.1)
  simp only [hn, if_false, h1, hs, if_true, Call.andThen, callReceive, h2]

/-- Everything Finish can do (R126). -/
theorem finish_next {c : AckCode} {p : Option (List Byte)} {n : Nat} (h : finish c p n s = .next t) :
    (∃ b, c = .ack ∧ p = some b ∧ b.length = n ∧ t = s.complete (.code .ack) b) ∨
    (c = .ack ∧ t = s.raised .rxLength) ∨
    (c ≠ .ack ∧ t = s.complete (.code c) []) := by
  unfold finish at h
  by_cases hc : c = .ack
  · rw [if_pos hc] at h
    cases p with
    | none => simp at h; exact .inr (.inl ⟨hc, h.symm⟩)
    | some b =>
      simp only at h
      split at h
      · rename_i hl
        simp at h
        exact .inl ⟨b, hc, rfl, hl, h.symm⟩
      · simp at h
        exact .inr (.inl ⟨hc, h.symm⟩)
  · rw [if_neg hc] at h
    simp at h
    exact .inr (.inr ⟨hc, h.symm⟩)

/-- RxFrame writes STATE on a zero-bit receive and nothing else (R120). -/
theorem rxFrame_state (s : State) (a : Await) (r : Response) :
    (rxFrame s a r).state = s ∨
      (r = .timeout ∧ (rxFrame s a r).state = s.setSession .disconnected ∧
        (rxFrame s a r).code = .nakTimeout ∧ (rxFrame s a r).payload = none) := by
  cases r with
  | timeout => exact .inr ⟨rfl, rfl, rfl, rfl⟩
  | short c => exact .inl rfl
  | full b ok =>
    refine .inl ?_
    unfold rxFrame
    split
    · exact absurd ‹_› (by simp)
    · exact absurd ‹_› (by simp)
    · repeat' split
      all_goals rfl

/-- A payload is handed on only with the code ACK (R122). -/
theorem rxFrame_payload {s : State} {a : Await} {r : Response} {b : List Byte}
    (h : (rxFrame s a r).payload = some b) : (rxFrame s a r).code = .ack := by
  unfold rxFrame at h ⊢
  repeat' split at h
  all_goals simp_all

/-- A response is answered only by an outstanding receive, which it ends. -/
theorem respond_next {r : Response} (h : respond r s = .next t) :
    ∃ a, s.await = some a ∧
      resume (rxFrame s.disarm a r).code (rxFrame s.disarm a r).payload (rxFrame s.disarm a r).state = .next t := by
  unfold respond at h
  cases ha : s.await with
  | none => simp [ha] at h
  | some a => exact ⟨a, rfl, by simpa [ha] using h⟩

theorem respond_of {r : Response} {a : Await} (ha : s.await = some a) :
    respond r s =
      resume (rxFrame s.disarm a r).code (rxFrame s.disarm a r).payload (rxFrame s.disarm a r).state := by
  unfold respond
  rw [ha]

@[simp] theorem captureUid_eq (u : Uid) (s : State) :
    captureUid u s = .next (((s.setUid u).setSession .selected).complete (.code .ack) []) := rfl

/-- A collision probe that is gone on from has answered false (R150). -/
theorem probeFirst_next {body : State → Out} (h : probeFirst s body = .next t) :
    (s.record .probe).collides = false ∧ body (s.record .probe).afterProbe = .next t := by
  unfold probeFirst at h
  cases hc : (s.record .probe).collides <;> simp [hc] at h
  exact ⟨rfl, h⟩

/-- Everything a select procedure other than the default one can do between two exchanges (R150). -/
theorem followProcedure_next {k : Nat} {answers : List (Option (List Byte))}
    (h : followProcedure k answers s = .next t) :
    (Config.customSelect k answers = .malformed ∧ t = s.raised .selectMalformed) ∨
    (∃ ask, Config.customSelect k answers = .send ask ∧
      t = (s.goto (.procedure k ask answers)).load (selectAskFrame ask)) ∨
    (∃ u, Config.customSelect k answers = .done u ∧
      t = ((s.setUid u).setSession .selected).complete (.code .ack) []) := by
  unfold followProcedure at h
  cases ha : Config.customSelect k answers <;> simp only [ha, raise_eq, captureUid_eq, Host.Outcome.next.injEq] at h
  · exact .inl ⟨rfl, h.symm⟩
  · exact .inr (.inl ⟨_, rfl, h.symm⟩)
  · exact .inr (.inr ⟨_, rfl, h.symm⟩)

/-- Everything such a procedure can do after a receive (R150): it ends with the code, or goes on with the answer. -/
theorem resumeProcedure_next {k : Nat} {ask : SelectAsk} {answers : List (Option (List Byte))} {c : AckCode}
    {p : Option (List Byte)} (h : resumeProcedure k ask answers c p s = .next t) :
    (c ≠ .ack ∧ t = s.complete (.code c) []) ∨
    (c = .ack ∧ ∃ s', (s' = s ∨ s' = (s.record .probe).afterProbe) ∧
      followProcedure k (answers ++ [p]) s' = .next t) := by
  unfold resumeProcedure at h
  by_cases hc : c = .ack
  · rw [if_pos hc] at h
    split at h
    · exact .inr ⟨hc, _, .inr rfl, (probeFirst_next h).2⟩
    · exact .inr ⟨hc, _, .inl rfl, h⟩
  · rw [if_neg hc] at h
    simp at h
    exact .inl ⟨hc, h.symm⟩

/-- Everything the anticollision step of CONNECT can do (R150). -/
theorem resumeAnticoll_next {l : Cascade} {c : AckCode} {p : Option (List Byte)}
    (h : resumeAnticoll l c p s = .next t) :
    (c ≠ .ack ∧ t = s.complete (.code c) []) ∨
    (c = .ack ∧ t = (s.record .probe).afterProbe.raised .selectMalformed) ∨
    (∃ r check, c = .ack ∧ p = some (r.toList ++ [check]) ∧
      t = ((s.record .probe).afterProbe.goto (.select l r)).load (selectFrame l r check)) := by
  unfold resumeAnticoll at h
  by_cases hc : c = .ack
  · rw [if_pos hc] at h
    have h := (probeFirst_next h).2
    unfold acceptAnticoll at h
    repeat' split at h
    · simp only [Host.Outcome.next.injEq] at h
      exact .inr (.inr ⟨_, _, hc, by simp [Bytes4.toList], h.symm⟩)
    · simp at h; exact .inr (.inl ⟨hc, h.symm⟩)
    · simp at h; exact .inr (.inl ⟨hc, h.symm⟩)
  · rw [if_neg hc] at h
    simp at h
    exact .inl ⟨hc, h.symm⟩

/-- Everything the select step of CONNECT can do (R150). -/
theorem resumeSelect_next {l : Cascade} {r : Bytes4} {c : AckCode} {p : Option (List Byte)}
    (h : resumeSelect l r c p s = .next t) :
    (c ≠ .ack ∧ t = s.complete (.code c) []) ∨
    (c = .ack ∧ t = s.raised .selectMalformed) ∨
    (c = .ack ∧ l = .one ∧
      t = (s.goto (.anticoll (.two ⟨r.b1, r.b2, r.b3⟩))).load (anticollFrame (.two ⟨r.b1, r.b2, r.b3⟩))) ∨
    (∃ part sak, c = .ack ∧ l = .two part ∧ p = some [sak] ∧
      t = ((s.setUid ⟨part, r⟩).setSession .selected).complete (.code .ack) []) := by
  unfold resumeSelect at h
  by_cases hc : c = .ack
  · rw [if_pos hc] at h
    split at h
    · split at h
      · cases l with
        | one => simp [advanceSelect] at h; exact .inr (.inr (.inl ⟨hc, rfl, h.symm⟩))
        | two part => simp [advanceSelect] at h; exact .inr (.inr (.inr ⟨part, _, hc, rfl, rfl, h.symm⟩))
      · simp at h; exact .inr (.inl ⟨hc, h.symm⟩)
    · simp at h; exact .inr (.inl ⟨hc, h.symm⟩)
  · rw [if_neg hc] at h
    simp at h
    exact .inl ⟨hc, h.symm⟩

/-- Everything an iteration of READ_SETTINGS can do after its receive (R220). -/
theorem resumeReadSettings_next {done : List Bytes4} {c : AckCode} {p : Option (List Byte)}
    (h : resumeReadSettings done c p s = .next t) :
    (c ≠ .ack ∧ t = s.complete (.code c) []) ∨
    (c = .ack ∧ t = s.raised .rxLength) ∨
    (∃ page rest, c = .ack ∧ p = some (page.toList ++ rest) ∧ rest.length = 12 ∧
      ((∃ p0 p1 p2, done = [p0, p1, p2] ∧
          t = (s.setSettings (unpack s.params.codec ⟨p0, p1, p2, page⟩)).complete (.code .ack)
            (Bytes16.toList ⟨p0, p1, p2, page⟩)) ∨
        (done.length ≠ 3 ∧
          t = (s.goto (.readSettings (done ++ [page]))).load (settingsReadFrame s.variant (done.length + 1))))) := by
  unfold resumeReadSettings at h
  by_cases hc : c = .ack
  · rw [if_pos hc] at h
    split at h
    · rename_i d0 d1 d2 d3 rest
      split at h
      · rename_i hl
        refine .inr (.inr ⟨⟨d0, d1, d2, d3⟩, rest, hc, rfl, hl, ?_⟩)
        unfold collectPage at h
        split at h
        · simp at h; exact .inl ⟨_, _, _, rfl, h.symm⟩
        · rename_i hd
          simp only [Host.Outcome.next.injEq] at h
          refine .inr ⟨fun h3 => ?_, h.symm⟩
          obtain ⟨p0, p1, p2, rfl⟩ := List.length_eq_three.mp h3
          exact hd p0 p1 p2 rfl
      · simp at h; exact .inr (.inl ⟨hc, h.symm⟩)
    · simp at h; exact .inr (.inl ⟨hc, h.symm⟩)
  · rw [if_neg hc] at h
    simp at h
    exact .inl ⟨hc, h.symm⟩

/-- Everything an iteration of WRITE_SETTINGS can do after its receive (R224). -/
theorem resumeWriteSettings_next {r : Settings} {i : Nat} {c : AckCode}
    (h : resumeWriteSettings r i c s = .next t) :
    (c ≠ .ack ∧ t = s.complete (.code c) []) ∨
    (c = .ack ∧ 3 ≤ i ∧ t = (s.setSettings r).complete (.code .ack) []) ∨
    (c = .ack ∧ i < 3 ∧
      t = (s.goto (.writeSettings r (i + 1))).load
        (settingsWriteFrame s.variant (pack s.params.codec r) (i + 1))) := by
  unfold resumeWriteSettings at h
  by_cases hc : c = .ack
  · rw [if_pos hc] at h
    split at h
    · rename_i hi
      simp at h; exact .inr (.inl ⟨hc, hi, h.symm⟩)
    · rename_i hi
      simp at h; exact .inr (.inr ⟨hc, by omega, h.symm⟩)
  · rw [if_neg hc] at h
    simp at h
    exact .inl ⟨hc, h.symm⟩

/-- Everything PWD_AUTH can do after its receive (R205). -/
theorem resumePwdAuth_next {c : AckCode} {p : Option (List Byte)} (h : resumePwdAuth c p s = .next t) :
    (c = .ack ∧ p = some s.settings.pack.toList ∧
      t = (s.setSession .authenticated).complete (.code .ack) s.settings.pack.toList) ∨
    (¬(c = .ack ∧ p = some s.settings.pack.toList) ∧
      t = (if s.session = .authenticated then s.setSession .selected else s).complete
        (if c = .ack then .authMismatch else .code c) []) := by
  unfold resumePwdAuth at h
  split at h
  · rename_i hc
    simp only [Host.Outcome.next.injEq] at h
    exact .inl ⟨hc.1, hc.2, h.symm⟩
  · rename_i hc
    simp only [Host.Outcome.next.injEq] at h
    exact .inr ⟨hc, h.symm⟩

end Sys2Proof.Machine
end

