-- ==== Sys2Proof/Laws/Buffers.lean ====
section
/-! SUPPORT. Every operation that writes RXBUF, RXLEN or the TX buffer keeps the form `Memory.wf` (spec/10_state.md rule R31,
spec/20_memory.md rule R59), and the reset state has it. -/

namespace Sys2Proof.Machine

variable {s : State}

theorem reset_wf : Memory.wf State.reset = true := by decide

theorem wf_iff : Memory.wf s = true ↔ s.rxlen = s.rxbuf.length ∧ ∀ f, s.txbuf = some f → f.wf = true := by
  unfold Memory.wf
  cases s.txbuf <;> simp

/-- A frame of whole bytes is a frame of R7. -/
theorem ofBytes_wf (b : List Byte) : (Frame.ofBytes b).wf = true := by
  unfold Frame.wf Frame.ofBytes
  cases b with
  | nil => rfl
  | cons x xs => simp

theorem complete_wf (r : Result) (b : List Byte) : Memory.wf (s.complete r b) = true := by
  simp [wf_iff]

theorem raised_wf (k : FaultKind) (h : Memory.wf s = true) : Memory.wf (s.raised k) = true := by
  have := (wf_iff.mp h).1
  simp [wf_iff, this]

theorem create_wf (v : Variant) (t : Transport) (m : CrcMode) : Memory.wf (s.create v t m) = true := by
  simp [wf_iff]

theorem load_wf (b : List Byte) (h : Memory.wf s = true) : Memory.wf (s.load (Frame.ofBytes b)) = true := by
  have := (wf_iff.mp h).1
  simp only [wf_iff, State.load_rxlen, State.load_rxbuf, State.load_txbuf, this, true_and]
  intro f hf
  cases hf
  exact ofBytes_wf b

theorem unload_wf (h : Memory.wf s = true) : Memory.wf s.unload = true := by
  have := (wf_iff.mp h).1
  simp [wf_iff, this]

/-- The updates that touch neither buffer. -/
theorem wf_congr {t : State} (h : Memory.wf s = true) (hl : t.rxlen = s.rxlen) (hb : t.rxbuf = s.rxbuf)
    (ht : t.txbuf = s.txbuf) : Memory.wf t = true := by
  rw [wf_iff] at h ⊢
  rw [hl, hb, ht]
  exact h

end Sys2Proof.Machine
end

