-- ==== Sys2Proof/Laws/PerInstr.lean ====
section
/-! SUPPORT. The statement that is made of every instruction as syntax: its words have the length the opcode table gives its
row, and are a frame or an answer of the spec's notation (spec/00_scope.md rule R7, spec/30_encoding.md rules R82 to R94). -/

namespace Sys2Proof.Laws.FrameLength

/-- The bits the opcode table gives a row (`length_bits`); none for a row without a frame of its own, and for COMP_WRITE.P1,
whose port word carries the data of phase 2 too (log 7). -/
def tableBits : Instr → Option Nat
  | .request => some 7
  | .wakeup => some 8
  | .halt => some 8
  | .getVersion => some 8
  | .read _ => some 16
  | .fastRead _ _ => some 24
  | .write _ _ => some 48
  | .compWriteP1 _ _ => none
  | .compWriteP2 _ => some 128
  | .readCnt _ => some 16
  | .pwdAuth _ => some 40
  | .readSig => some 16
  | .selectL1 _ u => some (16 + 8 * u.length)
  | .selectL2 _ u => some (16 + 8 * u.length)
  | .ack => some 4
  | .nakArgument => some 4
  | .nakCrc => some 4
  | .nakAuthOverflow => some 4
  | .nakWriteError => some 4
  | .nakTimeout => some 4
  | .nakDisconnected => some 4
  | .payload b _ => some (8 * b.length)
  | .timeout => some 0
  | .attach _ _ _ => none
  | .disconnect => none
  | .destroy => none
  | .connect => none
  | .readSettings => none
  | .writeSettings _ => none

/-- The bit count of the words of an instruction. -/
def wordBits : Encoded → Nat
  | .cmd f => f.bits
  | .tx f => f.bits
  | .rx a => a.bits

/-- The words are a frame of R7, or an answer whose buffer holds its bits (R52). -/
def wordWf : Encoded → Bool
  | .cmd f => f.wf
  | .tx f => f.wf
  | .rx a => decide (a.bits ≤ 8 * a.buf.length)

/-- The words of a well-formed instruction have the table's length and are well-formed. -/
def Statement (i : Instr) : Prop :=
  i.wf = true → (∀ n, tableBits i = some n → wordBits (encode i) = n) ∧ wordWf (encode i) = true

theorem request : Statement .request :=
  fun _ => ⟨fun _ h => Option.some.inj h, rfl⟩

theorem wakeup : Statement .wakeup :=
  fun _ => ⟨fun _ h => Option.some.inj h, Machine.ofBytes_wf _⟩

theorem halt : Statement .halt :=
  fun _ => ⟨fun _ h => Option.some.inj h, Machine.ofBytes_wf _⟩

theorem getVersion : Statement .getVersion :=
  fun _ => ⟨fun _ h => Option.some.inj h, Machine.ofBytes_wf _⟩

theorem read (page : Byte) : Statement (.read page) :=
  fun _ => ⟨fun _ h => Option.some.inj h, Machine.ofBytes_wf _⟩

theorem fastRead (start : Byte) (stop : Byte) : Statement (.fastRead start stop) :=
  fun _ => ⟨fun _ h => Option.some.inj h, Machine.ofBytes_wf _⟩

theorem write (page : Byte) (data : Bytes4) : Statement (.write page data) :=
  fun _ => ⟨fun _ h => Option.some.inj h, Machine.ofBytes_wf _⟩

theorem compWriteP1 (page : Byte) (data : Bytes16) : Statement (.compWriteP1 page data) :=
  fun _ => ⟨fun _ h => (nomatch h), Machine.ofBytes_wf _⟩

theorem compWriteP2 (data : Bytes16) : Statement (.compWriteP2 data) :=
  fun _ => ⟨fun _ h => Option.some.inj h, Machine.ofBytes_wf _⟩

theorem readCnt (index : Byte) : Statement (.readCnt index) :=
  fun _ => ⟨fun _ h => Option.some.inj h, Machine.ofBytes_wf _⟩

theorem pwdAuth (pwd : Bytes4) : Statement (.pwdAuth pwd) :=
  fun _ => ⟨fun _ h => Option.some.inj h, Machine.ofBytes_wf _⟩

theorem readSig : Statement .readSig :=
  fun _ => ⟨fun _ h => Option.some.inj h, Machine.ofBytes_wf _⟩

theorem selectL1 (nvb : Byte) (u : List Byte) : Statement (.selectL1 nvb u) := by
  intro _
  refine ⟨fun n h => ?_, Machine.ofBytes_wf _⟩
  simp only [tableBits, Option.some.injEq] at h
  simp only [wordBits, encode, Frame.ofBytes, List.length_append, List.length_cons, List.length_nil]
  omega

theorem selectL2 (nvb : Byte) (u : List Byte) : Statement (.selectL2 nvb u) := by
  intro _
  refine ⟨fun n h => ?_, Machine.ofBytes_wf _⟩
  simp only [tableBits, Option.some.injEq] at h
  simp only [wordBits, encode, Frame.ofBytes, List.length_append, List.length_cons, List.length_nil]
  omega

theorem ack : Statement .ack :=
  fun _ => ⟨fun _ h => Option.some.inj h, rfl⟩

theorem nakArgument : Statement .nakArgument :=
  fun _ => ⟨fun _ h => Option.some.inj h, rfl⟩

theorem nakCrc : Statement .nakCrc :=
  fun _ => ⟨fun _ h => Option.some.inj h, rfl⟩

theorem nakAuthOverflow : Statement .nakAuthOverflow :=
  fun _ => ⟨fun _ h => Option.some.inj h, rfl⟩

theorem nakWriteError : Statement .nakWriteError :=
  fun _ => ⟨fun _ h => Option.some.inj h, rfl⟩

theorem nakTimeout : Statement .nakTimeout :=
  fun _ => ⟨fun _ h => Option.some.inj h, rfl⟩

theorem nakDisconnected : Statement .nakDisconnected :=
  fun _ => ⟨fun _ h => Option.some.inj h, rfl⟩

theorem payload (bytes : List Byte) (ok : Bool) : Statement (.payload bytes ok) := by
  intro _
  refine ⟨fun n h => ?_, ?_⟩
  · exact Option.some.inj h
  · simp [wordWf, encode]

theorem timeout : Statement .timeout :=
  fun _ => ⟨fun _ h => Option.some.inj h, rfl⟩

theorem attach (variant : Byte) (transport : Transport) (mode : CrcMode) : Statement (.attach variant transport mode) :=
  fun _ => ⟨fun _ h => (nomatch h), Machine.ofBytes_wf _⟩

theorem disconnect : Statement .disconnect :=
  fun _ => ⟨fun _ h => (nomatch h), Machine.ofBytes_wf _⟩

theorem destroy : Statement .destroy :=
  fun _ => ⟨fun _ h => (nomatch h), Machine.ofBytes_wf _⟩

theorem connect : Statement .connect :=
  fun _ => ⟨fun _ h => (nomatch h), Machine.ofBytes_wf _⟩

theorem readSettings : Statement .readSettings :=
  fun _ => ⟨fun _ h => (nomatch h), Machine.ofBytes_wf _⟩

theorem writeSettings (record : Settings) : Statement (.writeSettings record) :=
  fun _ => ⟨fun _ h => (nomatch h), Machine.ofBytes_wf _⟩

end Sys2Proof.Laws.FrameLength
end

