-- ==== Sys2Proof/Tests/Slice0.lean ====
section
/-! SUPPORT. The model's own tests: the checks of WellFormed, every instruction's words written out from the spec's encodings,
single steps against the vectors of spec/95_test_vectors.md (named in each docstring), and for each statement with
hypotheses a state that meets them. -/

namespace Sys2Proof.Tests

open Sys2Proof Sys2Proof.Machine Sys2Proof.Claims

/- The tests are evaluated by the kernel one after another: each waits for the whole package to be checked, and side by side
they would hold a thread each. -/
set_option Elab.async false

/-! ### Helpers -/

/-- The next state, if there is one. -/
def nextOf : Out → Option State
  | .next s => some s
  | .fault _ => none
  | .refused _ => none

/-- A session in `SW` mode with CRC_A, in STATE `x`, whose transport sends everything and answers `rx`. -/
def inState (x : Session) (rx : List Answer) : State :=
  { State.reset with session := x, env := ⟨[true, true, true, true], rx, [false, false], 0⟩ }

/-- That session in `HW` mode. -/
def inHw (x : Session) (rx : List Answer) : State := { inState x rx with crcMode := .hw }

/-- A session whose transport sends nothing whole. -/
def deaf (x : Session) : State := { inState x [] with env := ⟨[false], [], [], 0⟩ }

/-- A session in which a command waits at `p` with the receive `a`. -/
def waits (x : Session) (a : Await) (p : Position) : State :=
  { inState x [] with await := some a, position := p }

/-- The answer of a byte string without CRC information. -/
def bytesAnswer (b : List Byte) : Answer := ⟨8 * b.length, b, false⟩

/-- Sixteen bytes `10 11 .. 1F` (T8). -/
def t8 : Bytes16 :=
  ⟨⟨0x10, 0x11, 0x12, 0x13⟩, ⟨0x14, 0x15, 0x16, 0x17⟩, ⟨0x18, 0x19, 0x1A, 0x1B⟩, ⟨0x1C, 0x1D, 0x1E, 0x1F⟩⟩

/-- The data of T33. -/
def t33 : Bytes16 := ⟨⟨0x11, 0x22, 0x33, 0x44⟩, ⟨0, 0, 0, 0⟩, ⟨0, 0, 0, 0⟩, ⟨0, 0, 0, 0⟩⟩

/-- The record of T122. -/
def t122 : Settings :=
  ⟨.both, 1, 0x10, true, 0x04, true, false, true, false, 5, ⟨0x11, 0x22, 0x33, 0x44⟩, ⟨0xAA, 0xBB⟩⟩

/-- The session of section 2.7: `PACK = AA BB`, waiting for the password acknowledgement. -/
def authWait (x : Session) : State :=
  { waits x ⟨16, true, .payload⟩ .pwdAuth with settings := { Settings.default with pack := ⟨0xAA, 0xBB⟩ } }

/-! ### WellFormed refuses -/

theorem test_wf_refuses_six_uid_bytes_level_one :
    (Instr.selectL1 0x70 [1, 2, 3, 4, 5, 6]).wf = false := by decide
theorem test_wf_refuses_six_uid_bytes_level_two :
    (Instr.selectL2 0x70 [1, 2, 3, 4, 5, 6]).wf = false := by decide
theorem test_wf_refuses_empty_payload : (Instr.payload [] true).wf = false := by decide
theorem test_wf_accepts_limits :
    (Instr.selectL1 0x70 [1, 2, 3, 4, 5]).wf = true ∧ (Instr.selectL2 0x20 []).wf = true ∧
      (Instr.payload [0] false).wf = true := by decide

/-! ### Words written out from spec/30_encoding.md -/

theorem test_decode_request : decode (.cmd ⟨[0b00100110], 7⟩) = .ok .request := rfl
theorem test_decode_wakeup : decode (.cmd ⟨[0b01010010], 8⟩) = .ok .wakeup := rfl
theorem test_decode_halt : decode (.cmd ⟨[0b01010000], 8⟩) = .ok .halt := rfl
theorem test_decode_getVersion : decode (.cmd ⟨[0b01100000], 8⟩) = .ok .getVersion := rfl
theorem test_decode_read : decode (.cmd ⟨[0b00110000, 0x04], 16⟩) = .ok (.read 0x04) := rfl
theorem test_decode_fastRead :
    decode (.cmd ⟨[0b00111010, 0x04, 0x07], 24⟩) = .ok (.fastRead 0x04 0x07) := rfl
theorem test_decode_write :
    decode (.cmd ⟨[0b10100010, 0x05, 0xDE, 0xAD, 0xBE, 0xEF], 48⟩)
      = .ok (.write 0x05 ⟨0xDE, 0xAD, 0xBE, 0xEF⟩) := rfl
theorem test_decode_compWriteP1 :
    decode (.cmd ⟨[0b10100000, 0x06, 0x11, 0x22, 0x33, 0x44, 0, 0, 0, 0, 0, 0, 0, 0, 0, 0, 0, 0], 144⟩)
      = .ok (.compWriteP1 0x06 t33) := rfl
theorem test_decode_compWriteP2 :
    decode (.tx ⟨[0x11, 0x22, 0x33, 0x44, 0, 0, 0, 0, 0, 0, 0, 0, 0, 0, 0, 0], 128⟩) = .ok (.compWriteP2 t33) := rfl
theorem test_decode_readCnt : decode (.cmd ⟨[0b00111001, 0x02], 16⟩) = .ok (.readCnt 0x02) := rfl
theorem test_decode_pwdAuth :
    decode (.cmd ⟨[0b00011011, 0x11, 0x22, 0x33, 0x44], 40⟩) = .ok (.pwdAuth ⟨0x11, 0x22, 0x33, 0x44⟩) := rfl
theorem test_decode_readSig : decode (.cmd ⟨[0b00111100, 0x00], 16⟩) = .ok .readSig := rfl
theorem test_decode_selectL1 :
    decode (.tx ⟨[0b10010011, 0x70, 0x88, 0x04, 0xA1, 0xB2, 0x9F], 56⟩)
      = .ok (.selectL1 0x70 [0x88, 0x04, 0xA1, 0xB2, 0x9F]) := rfl
theorem test_decode_selectL2 : decode (.tx ⟨[0b10010101, 0x20], 16⟩) = .ok (.selectL2 0x20 []) := rfl
/-- T55: bits 7:4 of the byte are ignored. -/
theorem test_decode_ack : decode (.rx ⟨4, [0xFA], false⟩) = .ok .ack := rfl
theorem test_decode_nakArgument : decode (.rx ⟨4, [0b0000], false⟩) = .ok .nakArgument := rfl
theorem test_decode_nakCrc : decode (.rx ⟨4, [0b0001], false⟩) = .ok .nakCrc := rfl
theorem test_decode_nakAuthOverflow : decode (.rx ⟨4, [0b0100], false⟩) = .ok .nakAuthOverflow := rfl
theorem test_decode_nakWriteError : decode (.rx ⟨4, [0b0101], false⟩) = .ok .nakWriteError := rfl
theorem test_decode_nakTimeout : decode (.rx ⟨4, [0b1111], false⟩) = .ok .nakTimeout := rfl
theorem test_decode_nakDisconnected : decode (.rx ⟨4, [0b1100], false⟩) = .ok .nakDisconnected := rfl
theorem test_decode_payload : decode (.rx ⟨8, [0x0A], true⟩) = .ok (.payload [0x0A] true) := rfl
theorem test_decode_timeout : decode (.rx ⟨0, [0x0A], true⟩) = .ok .timeout := rfl
theorem test_decode_attach :
    decode (.cmd ⟨[0xE0, 0x01, 0b00010001, 0x02, 0x34, 0x12], 48⟩)
      = .ok (.attach 1 ⟨true, false, false, false, some (.constant 0x1234)⟩ .hw) := by decide
theorem test_decode_disconnect : decode (.cmd ⟨[0xE2], 8⟩) = .ok .disconnect := rfl
theorem test_decode_destroy : decode (.cmd ⟨[0xE3], 8⟩) = .ok .destroy := rfl
theorem test_decode_connect : decode (.cmd ⟨[0xE1], 8⟩) = .ok .connect := rfl
theorem test_decode_readSettings : decode (.cmd ⟨[0xE4], 8⟩) = .ok .readSettings := rfl
/-- T122: the packed bytes of the record. -/
theorem test_decode_writeSettings :
    decode (.cmd ⟨[0xE5, 0xD4, 0x00, 0x10, 0x04, 0x95, 0, 0, 0, 0x11, 0x22, 0x33, 0x44, 0xAA, 0xBB, 0, 0], 136⟩)
      = .ok (.writeSettings t122) := by decide

/-- T54 and R99: a nibble outside the enumeration. -/
theorem test_decode_reserved_nibble : decode (.rx ⟨4, [0x02], false⟩) = .error .reservedNibble := rfl
/-- T56: a count that is neither 0, nor 4, nor a multiple of 8. -/
theorem test_decode_twelve_bits : decode (.rx ⟨12, [0, 0], false⟩) = .error .malformedLength := rfl
/-- R98: the reserved byte of READ_SIG is always 0x00. -/
theorem test_decode_readSig_reserved : decode (.cmd ⟨[0x3C, 0x01], 16⟩) = .error .reservedOperand := rfl
/-- R98: a select frame is no host command. -/
theorem test_decode_select_is_no_command : decode (.cmd ⟨[0x93, 0x20], 16⟩) = .error .unknownSelector := rfl

/-! ### CRC and codec vectors -/

/-- T1, T2, T3. -/
theorem test_crcA : crcA [] = 0x6363 ∧ crcA [0, 0] = 0x1EA0 ∧ crcA [0x12, 0x34] = 0xCF26 := by decide +kernel
/-- T8. -/
theorem test_crcA_sixteen_bytes : crcA t8.toList = 0xE822 := by decide +kernel
/-- T10, T11, T12, T13. -/
theorem test_crcCheck :
    crcCheck crcA [0x60, 0xF8, 0x32] = some [0x60] ∧ crcCheck crcA [0x60, 0xF8, 0x33] = none ∧
      crcCheck crcA [0x63, 0x63] = some [] ∧ crcCheck crcA [0x63] = none := by decide +kernel
/-- T121. -/
theorem test_pack_default :
    (packStandard Settings.default).toList = [0x04, 0, 0, 0xFF, 0, 0, 0, 0, 0xFF, 0xFF, 0xFF, 0xFF, 0, 0, 0, 0] := by
  decide
/-- T122. -/
theorem test_pack_record :
    (packStandard t122).toList
      = [0xD4, 0x00, 0x10, 0x04, 0x95, 0, 0, 0, 0x11, 0x22, 0x33, 0x44, 0xAA, 0xBB, 0, 0] := by decide

/-! ### Single steps -/

/-- T70: what REQUEST sends and asks. -/
theorem test_request :
    (nextOf (exec .request (inState .idle []))).map (fun t => (t.session, t.events))
      = some (.requested, [.receive 16, .transmit ⟨[0x26], 7⟩]) := by decide +kernel
/-- T72: what WAKEUP sends. -/
theorem test_wakeup :
    (nextOf (exec .wakeup (inState .halted []))).map (fun t => (t.session, t.events))
      = some (.requested, [.receive 16, .transmit ⟨[0x52, 0x69, 0x20], 24⟩]) := by decide +kernel
/-- T78. -/
theorem test_halt :
    (nextOf (exec .halt (inState .selected []))).map (fun t => (t.session, t.result, t.events))
      = some (.halted, .code .ack, [.result (.code .ack), .transmit ⟨[0x50, 0x7B, 0x03], 24⟩]) := by decide +kernel
/-- T79. -/
theorem test_halt_gate :
    (nextOf (exec .halt (inState .idle []))).map (fun t => (t.session, t.result))
      = some (.idle, .code .nakDisconnected) := by decide +kernel
/-- T90: what GET_VERSION sends and asks. -/
theorem test_getVersion :
    (nextOf (exec .getVersion (inState .selected []))).map State.events
      = some [.receive 80, .transmit ⟨[0x60, 0xF8, 0x32], 24⟩] := by decide +kernel
/-- T90: its answer, read as a Version Record (R172). -/
theorem test_getVersion_answer :
    (nextOf (exec (.payload [0x00, 0x04, 0x04, 0x02, 0x01, 0x00, 0x0F, 0x03, 0x80, 0x91] false)
        (waits .selected ⟨64, true, .payload⟩ (.finish 8)))).map (fun t => (t.result, t.rxlen, t.version))
      = some (.code .ack, 8, some ⟨0x00, 0x04, 0x04, 0x02, 0x01, 0x00, 0x0F, 0x03⟩) := by decide +kernel
/-- T24. -/
theorem test_read :
    (nextOf (exec (.read 0x04) (inState .selected []))).map State.events
      = some [.receive 144, .transmit ⟨[0x30, 0x04, 0x26, 0xEE], 32⟩] := by decide +kernel
/-- T24 in `HW` mode. -/
theorem test_read_hw :
    (nextOf (exec (.read 0x04) (inHw .selected []))).map State.events
      = some [.receiveCrc 128, .transmitCrc ⟨[0x30, 0x04], 16⟩] := by decide +kernel
/-- T95: the largest request. -/
theorem test_fastRead_whole_range :
    (nextOf (exec (.fastRead 0x00 0xFF) (inState .selected []))).map State.events
      = some [.receive 8208, .transmit ⟨[0x3A, 0x00, 0xFF, 0xB8, 0x5F], 40⟩] := by decide +kernel
/-- T96. -/
theorem test_fastRead_backwards :
    (nextOf (exec (.fastRead 0x07 0x04) (inState .selected []))).map (fun t => (t.fault, t.events))
      = some (some .argRange, []) := by decide +kernel
/-- T98: what READ_CNT sends and asks. -/
theorem test_readCnt :
    (nextOf (exec (.readCnt 0x02) (inState .selected []))).map State.events
      = some [.receive 40, .transmit ⟨[0x39, 0x02, 0x08, 0x5C], 32⟩] := by decide +kernel
/-- T99: what READ_SIG sends and asks. -/
theorem test_readSig :
    (nextOf (exec .readSig (inState .selected []))).map State.events
      = some [.receive 272, .transmit ⟨[0x3C, 0x00, 0xA2, 0x01], 32⟩] := by decide +kernel
/-- T110: what WRITE sends and asks. -/
theorem test_write :
    (nextOf (exec (.write 0x05 ⟨0xDE, 0xAD, 0xBE, 0xEF⟩) (inState .selected []))).map State.events
      = some [.receive 4, .transmit ⟨[0xA2, 0x05, 0xDE, 0xAD, 0xBE, 0xEF, 0x66, 0x80], 64⟩] := by decide +kernel
/-- T114, phase 1. -/
theorem test_compWriteP1 :
    (nextOf (exec (.compWriteP1 0x06 t33) (inState .selected []))).map (fun t => (t.position, t.events))
      = some (.compPhase1 t33, [.receive 4, .transmit ⟨[0xA0, 0x06, 0x69, 0xD4], 32⟩]) := by decide +kernel
/-- T33. -/
theorem test_compWriteP2 :
    (nextOf (exec (.compWriteP2 t33) { inState .selected [] with position := .compPhase2 })).map State.events
      = some [.receive 4, .transmit ⟨t33.toList ++ [0x91, 0x3E], 144⟩] := by decide +kernel
/-- T36. -/
theorem test_pwdAuth :
    (nextOf (exec (.pwdAuth ⟨0x11, 0x22, 0x33, 0x44⟩) (inState .selected []))).map State.events
      = some [.receive 32, .transmit ⟨[0x1B, 0x11, 0x22, 0x33, 0x44, 0x89, 0x02], 56⟩] := by decide +kernel
/-- T39. -/
theorem test_selectL1 :
    (nextOf (exec (.selectL1 0x70 [0x88, 0x04, 0xA1, 0xB2, 0x9F])
        { inState .requested [] with position := .select .one ⟨0x88, 0x04, 0xA1, 0xB2⟩ })).map State.events
      = some [.receive 24, .transmit ⟨[0x93, 0x70, 0x88, 0x04, 0xA1, 0xB2, 0x9F, 0xAE, 0x4B], 72⟩] := by
  decide +kernel
/-- T39a. -/
theorem test_selectL2 :
    (nextOf (exec (.selectL2 0x20 [])
        { inState .requested [] with position := .anticoll (.two ⟨0x04, 0xA1, 0xB2⟩) })).map State.events
      = some [.receive 40, .transmit ⟨[0x95, 0x20, 0x47, 0x58], 32⟩] := by decide +kernel
/-- T61. -/
theorem test_ack :
    (nextOf (exec .ack (waits .selected awaitAck .finishAck))).map State.result = some (.code .ack) := by
  decide +kernel
/-- T42: a bare ACK is no password acknowledgement. -/
theorem test_ack_pwdAuth :
    (nextOf (exec .ack (authWait .selected))).map (fun t => (t.result, t.session, t.fault))
      = some (.authMismatch, .selected, none) := by decide +kernel
/-- T92. -/
theorem test_nakArgument :
    (nextOf (exec .nakArgument (waits .selected (awaitPayload 128) (.finish 16)))).map
        (fun t => (t.result, t.rxlen, t.session)) = some (.code .nakArgument, 0, .selected) := by decide +kernel
/-- T52. -/
theorem test_nakCrc :
    (nextOf (exec .nakCrc (waits .selected (awaitPayload 128) (.finish 16)))).map State.result
      = some (.code .nakCrc) := by decide +kernel
/-- T43: a failed PWD_AUTH leaves Authenticated. -/
theorem test_nakAuthOverflow :
    (nextOf (exec .nakAuthOverflow (authWait .authenticated))).map (fun t => (t.result, t.session))
      = some (.code .nakAuthOverflow, .selected) := by decide +kernel
/-- T111. -/
theorem test_nakWriteError :
    (nextOf (exec .nakWriteError (waits .selected awaitAck .finishAck))).map State.result
      = some (.code .nakWriteError) := by decide +kernel
/-- T53: a nibble changes no STATE. -/
theorem test_nakTimeout :
    (nextOf (exec .nakTimeout (waits .selected (awaitPayload 128) (.finish 16)))).map
        (fun t => (t.result, t.session)) = some (.code .nakTimeout, .selected) := by decide +kernel
/-- T53. -/
theorem test_nakDisconnected :
    (nextOf (exec .nakDisconnected (waits .selected (awaitPayload 128) (.finish 16)))).map
        (fun t => (t.result, t.session)) = some (.code .nakDisconnected, .selected) := by decide +kernel
/-- T57. -/
theorem test_payload :
    (nextOf (exec (.payload (t8.toList ++ [0x22, 0xE8]) false) (waits .selected (awaitPayload 128) (.finish 16)))).map
        (fun t => (t.result, t.rxbuf, t.rxlen)) = some (.code .ack, t8.toList, 16) := by decide +kernel
/-- T45. -/
theorem test_payload_bad_crc :
    (nextOf (exec (.payload [0xAA, 0xBB, 0x77, 0x46] false) (authWait .selected))).map
        (fun t => (t.result, t.rxlen, t.session)) = some (.code .nakCrc, 0, .selected) := by decide +kernel
/-- T44. -/
theorem test_timeout :
    (nextOf (exec .timeout (authWait .authenticated))).map (fun t => (t.result, t.session))
      = some (.code .nakTimeout, .disconnected) := by decide +kernel
/-- T82. -/
theorem test_attach :
    (nextOf (exec (.attach 1 State.reset.transport .sw) { inState .selected [] with fault := some .argRange })).map
        (fun t => (t.fault, t.session, t.variant)) = some (none, .idle, .b) := by decide +kernel
/-- T83. -/
theorem test_attach_bad_variant :
    (nextOf (exec (.attach 3 State.reset.transport .sw) State.reset)).map State.fault
      = some (some .badVariant) := by decide +kernel
/-- T80. -/
theorem test_disconnect :
    (nextOf (exec .disconnect (inState .authenticated []))).map (fun t => (t.session, t.events))
      = some (.disconnected, [.result (.code .ack)]) := by decide +kernel
/-- T81. -/
theorem test_destroy :
    (nextOf (exec .destroy { inState .selected [] with
        uid := ⟨⟨0x04, 0xA1, 0xB2⟩, ⟨0xC3, 0xD4, 0xE5, 0xF6⟩⟩, settings := t122 })).map
        (fun t => (t.session, t.uid.toList, t.settings)) = some (.idle, [0, 0, 0, 0, 0, 0, 0], Settings.default) := by
  decide +kernel
/-- T77. -/
theorem test_connect_idle :
    (nextOf (exec .connect (inState .idle []))).map (fun t => (t.fault, t.events))
      = some (some .seqViolation, []) := by decide +kernel
/-- T76: a wrong check byte. -/
theorem test_connect_bad_check :
    (nextOf (exec (.payload [0x88, 0x04, 0xA1, 0xB2, 0x9E] false)
        (waits .requested (awaitPlain 40) (.anticoll .one)))).map State.fault
      = some (some .selectMalformed) := by decide +kernel
/-- The first READ of READ_SETTINGS on variant A (R220's example). -/
theorem test_readSettings :
    (nextOf (exec .readSettings (inState .selected []))).map State.txbuf
      = some (some ⟨[0x30, 0x29], 16⟩) := by decide +kernel
/-- The first WRITE of X9 on variant C (R224's example). -/
theorem test_writeSettings :
    (nextOf (exec (.writeSettings Settings.default) { inState .selected [] with variant := .c })).map State.txbuf
      = some (some ⟨[0xA2, 0xE3, 0x04, 0x00, 0x00, 0xFF], 48⟩) := by decide +kernel
/-- A placed word runs next: READ of page 0 from the table's word. -/
theorem test_withFetchWord :
    step (State.reset.withFetchWord 16 0x30) = exec (.read 0) { State.reset with env := ⟨[true], [], [], 0⟩ } := rfl

/-! ### States that meet the hypotheses of the statements -/

theorem witness_DecodeEncodeAgree :
    (Instr.selectL1 0x70 [1, 2, 3, 4, 5]).wf = true ∧ (Instr.selectL2 0x20 []).wf = true ∧
      (Instr.payload [0] true).wf = true ∧ (Instr.read 0xFF).wf = true := by decide

theorem witness_EngineEmitsOnlyItsOpcodes :
    ∃ t e f, exec (.read 0x04) (inHw .selected []) = .next t ∧ e ∈ t.events ∧ frameOf e = some f ∧
      (∀ d, Instr.read 0x04 ≠ .compWriteP2 d) :=
  ⟨_, .transmitCrc ⟨[0x30, 0x04], 16⟩, _, rfl, .tail _ (.head _), rfl, fun _ => nofun⟩

theorem witness_AnswersToldApartByBitCount :
    (∃ s : State, s.await = some awaitAck ∧ s.fault = none ∧ s.env.rx = [⟨0, [], false⟩] ∧
      (⟨0, [], false⟩ : Answer).bits = 0) ∧
    (∃ s : State, s.await = some awaitAck ∧ s.fault = none ∧ s.env.rx = [⟨8, [0x0A], false⟩] ∧
      (8 : Nat) % 8 = 0 ∧ (8 : Nat) ≠ 0) ∧
    (∃ s : State, s.await = some awaitAck ∧ s.fault = none ∧ s.env.rx = [⟨3, [0x0A], false⟩] ∧ (3 : Nat) % 8 ≠ 0) ∧
    (∃ s : State, s.await = some awaitAck ∧ s.fault = none ∧ s.env.rx = [⟨4, [0xE], false⟩] ∧
      ∀ c, codeBits c ≠ (0xE : Byte).extractLsb' 0 4) :=
  ⟨⟨{ waits .selected awaitAck .finishAck with env := ⟨[], [⟨0, [], false⟩], [], 0⟩ }, rfl, rfl, rfl, rfl⟩,
   ⟨{ waits .selected awaitAck .finishAck with env := ⟨[], [⟨8, [0x0A], false⟩], [], 0⟩ }, rfl, rfl, rfl, rfl,
    by decide⟩,
   ⟨{ waits .selected awaitAck .finishAck with env := ⟨[], [⟨3, [0x0A], false⟩], [], 0⟩ }, rfl, rfl, rfl, by decide⟩,
   ⟨{ waits .selected awaitAck .finishAck with env := ⟨[], [⟨4, [0xE], false⟩], [], 0⟩ }, rfl, rfl, rfl,
    fun c => by cases c <;> decide⟩⟩

/-- The state used below is accepting, connected, and its transport sends. -/
theorem selected_accepts (rx : List Answer) :
    (inState .selected rx).accepting ∧ (inState .selected rx).connected = true ∧ (inState .selected rx).sentAll = true :=
  ⟨⟨rfl, rfl, rfl, rfl⟩, rfl, rfl⟩

theorem deaf_accepts :
    (deaf .selected).accepting ∧ (deaf .selected).connected = true ∧ (deaf .selected).sentAll = false :=
  ⟨⟨rfl, rfl, rfl, rfl⟩, rfl, rfl⟩

theorem idle_accepts :
    (inState .idle []).accepting ∧ (inState .idle []).connected = false ∧ (inState .idle []).sentAll = true :=
  ⟨⟨rfl, rfl, rfl, rfl⟩, rfl, rfl⟩

theorem witness_FramesOnTheWire :
    ((inState .selected []).accepting ∧ (inState .selected []).connected = true ∧
      (inState .selected []).sentAll = true) ∧
    (∀ i ∈ [Instr.request, .wakeup, .halt, .getVersion, .read 0, .compWriteP1 0 t33, .readCnt 0, .readSig,
        .fastRead 0xFF 0xFF, .fastRead 0x00 0xFF, .write 0 ⟨0, 0, 0, 0⟩, .pwdAuth ⟨0, 0, 0, 0⟩],
      (nextOf (exec i (inState .selected []))).isSome = true) :=
  ⟨selected_accepts [], by decide +kernel⟩

theorem witness_CrcTrailerLowByteFirst :
    2 ≤ ([0x63, 0x63] : List Byte).length ∧ crcCheck crcA [0x63, 0x63] = some [] := by decide +kernel

theorem witness_CorruptedByteIsCaught :
    listens (waits .selected ⟨128, true, .payload⟩ (.finish 16)) ⟨128, true, .payload⟩ ∧
      (waits .selected ⟨128, true, .payload⟩ (.finish 16)).crcMode = .sw ∧
      (waits .selected ⟨128, true, .payload⟩ (.finish 16)).transport.crc16 = some .crcA ∧ (0x13 : Byte) ≠ 0x17 :=
  ⟨⟨rfl, nofun, nofun⟩, rfl, rfl, by decide⟩

/-- T59: one byte carries no trailer. -/
theorem witness_FailedPayloadNeverVisible :
    (listens (waits .selected ⟨128, true, .payload⟩ (.finish 16)) ⟨128, true, .payload⟩ ∧
      ¬ crcPasses (waits .selected ⟨128, true, .payload⟩ (.finish 16)) [0x0A]) ∧
    (listens { waits .selected ⟨128, true, .payload⟩ (.finish 16) with crcMode := .hw } ⟨128, true, .payload⟩) := by
  refine ⟨⟨⟨rfl, nofun, nofun⟩, ?_⟩, rfl, nofun, nofun⟩
  rintro ⟨b, hb⟩
  have := congrArg List.length hb
  simp at this

theorem witness_EveryCodecRoundTrips :
    (3 : Nat) ≤ 3 ∧ (pageOf (pack .standard t122) 3).toList = [0xAA, 0xBB, 0, 0] := by decide +kernel

theorem witness_StandardCodecLayout :
    (⟨⟨0x08, 0, 0, 0⟩, ⟨0x20, 1, 2, 3⟩, ⟨0, 0, 0, 0⟩, ⟨0, 0, 1, 2⟩⟩ : Bytes16) ≠ ⟨⟨0x03, 7, 0, 0⟩, ⟨0, 0, 0, 0⟩, ⟨0, 0, 0, 0⟩, ⟨0, 0, 0, 0⟩⟩ ∧
      (0x08 : Byte) &&& 0xF4 = 0x03 &&& 0xF4 ∧ (0x20 : Byte) &&& 0xDF = 0 &&& 0xDF := by decide

theorem witness_SettingsBasePages :
    (settingsPage .c 3).toNat = 0xE6 ∧ 2 < (3 : Byte).toNat ∧ 2 < (0xFF : Byte).toNat ∧
      State.reset.await = none ∧ State.reset.position = .idle := by decide

theorem witness_StepKeepsInvariant :
    ∃ t, Inv { inState .idle [] with cmd := [⟨[0x26], 7⟩] } ∧
      step { inState .idle [] with cmd := [⟨[0x26], 7⟩] } = .next t := by
  refine ⟨_, ?_, rfl⟩
  constructor <;>
    simp [inState, State.reset, Memory.wf, Position.allows, Position.inRange, State.sequenced, State.capable,
      Position.expects]

theorem witness_StepRunsTheDecodedInstruction :
    (∃ s : State, s.await = none ∧ s.txbuf = none ∧ s.cmd = [⟨[0x60], 8⟩] ∧
      decode (.cmd ⟨[0x60], 8⟩) = .ok .getVersion) ∧
    (∃ s : State, s.await = none ∧ s.txbuf = some ⟨[0x93, 0x20], 16⟩ ∧
      decode (.tx ⟨[0x93, 0x20], 16⟩) = .ok (.selectL1 0x20 [])) ∧
    (∃ s : State, s.await = some awaitAck ∧ s.env.rx = [⟨4, [0x0A], false⟩] ∧
      decode (.rx ⟨4, [0x0A], false⟩) = .ok .ack) ∧
    (State.reset.await = none ∧ State.reset.txbuf = none ∧ State.reset.cmd = []) :=
  ⟨⟨{ State.reset with cmd := [⟨[0x60], 8⟩] }, rfl, rfl, rfl, rfl⟩,
   ⟨{ State.reset with txbuf := some ⟨[0x93, 0x20], 16⟩ }, rfl, rfl, rfl⟩,
   ⟨{ waits .selected awaitAck .finishAck with env := ⟨[], [⟨4, [0x0A], false⟩], [], 0⟩ }, rfl, rfl, rfl⟩, rfl, rfl, rfl⟩

theorem witness_HwAndSwAgree :
    ((inState .selected []).crcMode = .sw ∧ (inState .selected []).await = none ∧
      (nextOf (exec (.read 0x04) (inState .selected []))).isSome = true ∧ awaitAck.crc = false) ∧
    ((waits .selected ⟨8, true, .payload⟩ (.finish 1)).await = some ⟨8, true, .payload⟩ ∧
      (waits .selected ⟨8, true, .payload⟩ (.finish 1)).crcMode = .sw) ∧
    (crcCheck (waits .selected ⟨8, true, .payload⟩ (.finish 1)).crc16 [0x60, 0xF8, 0x32]).isSome = true ∧
    (crcCheck (waits .selected ⟨8, true, .payload⟩ (.finish 1)).crc16 [0x60, 0xF8, 0x33]).isSome = false := by
  decide +kernel

theorem witness_AuthenticatedRunsLikeSelected :
    ((inState .authenticated []).session = .authenticated ∧ (inState .authenticated []).position ≠ .pwdAuth ∧
      (nextOf (exec (.read 0x04) (inState .authenticated []))).isSome = true) ∧
    ((authWait .authenticated).session = .authenticated ∧ (authWait .authenticated).position = .pwdAuth ∧
      (nextOf (exec .ack (authWait .authenticated))).isSome = true) := by decide +kernel

theorem witness_OnlyPwdAuthReadsSettings :
    (inState .selected []).position ≠ .pwdAuth ∧
      (nextOf (exec (.writeSettings t122) ((inState .selected []).setSettings t122))).isSome = true := by decide +kernel

/-- The invariant of a state in which a command waits, field by field. -/
theorem inv_waits {s : State} (hb : Memory.wf s = true) (hr : s.result = .code .ack) (hf : s.fault = none)
    (ha : s.attached = true) (hs : s.position.allows s.session) (hp : s.position.inRange) (hq : s.sequenced)
    (hc : s.capable) (hw : ∀ a, s.await = some a → s.position.expects a) : Inv s :=
  ⟨hb, fun h => absurd hr h, fun h => absurd hf h, fun h => absurd (ha.symm.trans h) nofun, hs, hp, hq, hw, hc⟩

/-- A session that can use the with-CRC pair, for the witnesses in `HW` mode that need the invariant. -/
def waitsHw (x : Session) (a : Await) (p : Position) : State :=
  { waits x a p with crcMode := .hw, transport := ⟨true, true, true, true, some .crcA⟩ }

/-- The last answers of CONNECT, READ_SETTINGS and WRITE_SETTINGS, which write UID and SETTINGS. -/
theorem witness_RegistersHaveTheirWriters :
    (∃ s t, Inv s ∧ exec (.payload [0x00] true) s = .next t ∧ t.uid = ⟨⟨0x04, 0xA1, 0xB2⟩, ⟨0xC3, 0xD4, 0xE5, 0xF6⟩⟩) ∧
    (∃ s t, Inv s ∧ exec .ack s = .next t ∧ t.settings = t122) ∧
    (∃ s t, Inv s ∧ exec (.payload t33.toList true) s = .next t ∧ t.settings.pack = ⟨0x11, 0x22⟩) := by
  refine ⟨⟨waitsHw .requested (awaitPayload 8) (.select (.two ⟨0x04, 0xA1, 0xB2⟩) ⟨0xC3, 0xD4, 0xE5, 0xF6⟩), _, ?_, rfl, rfl⟩,
    ⟨waits .selected awaitAck (.writeSettings t122 3), _, ?_, rfl, rfl⟩,
    ⟨waitsHw .selected (awaitPayload 128) (.readSettings [⟨0, 0, 0, 0⟩, ⟨0, 0, 0, 0⟩, ⟨0, 0, 0, 0⟩]), _, ?_, rfl, rfl⟩⟩ <;>
  · apply inv_waits <;>
      simp [waitsHw, waits, inState, State.reset, Memory.wf, Position.allows, Position.inRange, State.sequenced,
        State.capable, Position.expects, Session.isConnected]

theorem witness_StateTransitionTable :
    ∃ s t, Inv s ∧ exec (.payload [0xAA, 0xBB] true) s = .next t ∧ t.session = .authenticated := by
  refine ⟨{ authWait .selected with crcMode := .hw, transport := ⟨true, true, true, true, some .crcA⟩ }, _, ?_, rfl, rfl⟩
  apply inv_waits <;>
    simp [authWait, waits, inState, State.reset, Memory.wf, Position.allows, Position.inRange, State.sequenced,
      State.capable, Position.expects, awaitPayload, Session.isConnected]

theorem witness_FaultsStopTheCommand :
    (∃ t, (inState .idle []).fault = none ∧ exec .connect (inState .idle []) = .next t ∧ t.fault ≠ none) ∧
    (∃ t, exec .ack { waits .selected awaitAck .finishAck with fault := some .argRange } = .next t) :=
  ⟨⟨_, rfl, rfl, nofun⟩, ⟨_, rfl⟩⟩

theorem witness_FaultedSessionRefuses :
    gated .halt = true ∧ ungated .destroy = true ∧ ({ State.reset with fault := some .argRange } : State).fault = some .argRange := by
  decide

theorem witness_UnattachedSessionRefuses :
    gated .halt = true ∧ ungated .request = true ∧ State.unattached.fault = none ∧ State.unattached.attached = false := by
  decide

theorem witness_RunningCommandIsNotDisturbed :
    (∃ s t, Inv s ∧ s.position ≠ .idle ∧ step s = .next t) ∧
    ((waits .selected awaitAck .finishAck).fault = none ∧ (waits .selected awaitAck .finishAck).attached = true ∧
      (waits .selected awaitAck .finishAck).await ≠ none ∧ gated .halt = true ∧ ungated .request = true) ∧
    (waits .selected awaitAck .finishAck).position ≠ .idle := by
  refine ⟨⟨{ waits .selected awaitAck .finishAck with env := ⟨[], [⟨4, [0x0A], false⟩], [], 0⟩ }, _, ?_, nofun, rfl⟩,
    by decide, nofun⟩
  constructor <;>
    simp [waits, inState, State.reset, Memory.wf, Position.allows, Position.inRange, State.sequenced, State.capable,
      Position.expects, Session.isConnected]

theorem witness_GateKeepsUnconnectedSilent :
    (gated .getVersion = true ∧ (inState .idle []).accepting ∧ (inState .idle []).connected = false) ∧
    (∃ t, ungated .disconnect = true ∧ exec .disconnect (inState .idle []) = .next t) ∧
    (∃ t, exec (.attach 2 State.reset.transport .sw) (inState .idle []) = .next t) :=
  ⟨⟨rfl, ⟨rfl, rfl, rfl, rfl⟩, rfl⟩, ⟨_, rfl, rfl⟩, ⟨_, rfl⟩⟩

theorem witness_OneExchangePerInstruction :
    ∃ t, exec (.read 0x04) (inHw .selected []) = .next t ∧
      t.events = [.receiveCrc 128, .transmitCrc ⟨[0x30, 0x04], 16⟩] ++ (inHw .selected []).events :=
  ⟨_, rfl, rfl⟩

theorem witness_AttachCreatesTheSession :
    (State.reset.transport.transmit = true ∧ State.reset.transport.receive = true ∧
      State.reset.transport.crc16 ≠ none) ∧
    (State.reset.await = none ∧ State.reset.position = .idle) ∧
    (∃ tr : Transport, tr.transmit = true ∧ tr.receive = true ∧ tr.transmitCrc = true ∧ tr.receiveCrc = true) :=
  ⟨by decide, by decide, ⟨true, true, true, true, none⟩, rfl, rfl, rfl, rfl⟩

theorem witness_AttachDemandsCapabilities :
    (0 : Byte).toNat ≤ 2 ∧ (2 : Byte).toNat ≤ 2 ∧
    (∃ tr : Transport, tr.transmit = false ∧ tr.receive = true) ∧
    (∃ tr : Transport, tr.transmit = true ∧ tr.receive = true ∧ tr.transmitCrc = true ∧ tr.receiveCrc = false) ∧
    (∃ tr : Transport, tr.transmit = true ∧ tr.receive = true ∧ tr.crc16 = none) :=
  ⟨by decide, by decide, ⟨⟨false, true, true, true, none⟩, rfl, rfl⟩, ⟨⟨true, true, true, false, none⟩, rfl, rfl, rfl, rfl⟩,
    ⟨⟨true, true, true, true, none⟩, rfl, rfl, rfl⟩⟩

theorem witness_RequestAndWakeupProbe :
    ((inState .idle []).accepting ∧ (inState .idle []).sentAll = true) ∧
      ((deaf .authenticated).accepting ∧ (deaf .authenticated).sentAll = false) :=
  ⟨⟨⟨rfl, rfl, rfl, rfl⟩, rfl⟩, ⟨rfl, rfl, rfl, rfl⟩, rfl⟩

theorem witness_PlainReceiveEnds :
    (waits .requested ⟨16, false, .payload⟩ (.finish 2)).fault = none ∧
      (waits .requested ⟨16, false, .payload⟩ (.finish 2)).await = some ⟨16, false, .payload⟩ ∧
      (waits .requested ⟨16, false, .payload⟩ (.finish 2)).position = .finish 2 ∧
      nakOf .nakArgument = some .nakArgument := by decide

/-- An exchange a select procedure could make: a select with one UID byte and CRC, one byte with CRC expected. -/
def someAsk : SelectAsk := ⟨.one, 0x30, ⟨[0x88], by decide⟩, true, 8, true, true⟩

/-- What such an exchange puts into the TX buffer is the frame of SELECT_L1 (R92, R146). -/
theorem test_decode_procedure_frame : decode (.tx (selectAskFrame someAsk)) = .ok (.selectL1 0x30 [0x88]) := by decide

theorem witness_SelectFramesAreSent :
    (∀ p ∈ [Position.idle, .anticoll .one, .anticoll (.two ⟨0, 0, 0⟩), .select .one ⟨0x88, 0, 0, 0⟩],
      ({ inState .requested [] with position := p } : State).fault = none ∧
      ({ inState .requested [] with position := p } : State).attached = true ∧
      ({ inState .requested [] with position := p } : State).await = none ∧
      ({ inState .requested [] with position := p } : State).sentAll = true) ∧
    State.reset.params.anticollCrc = true ∧
    (∃ s : State, s.position = .anticoll .one ∧ s.params.anticollCrc = false ∧ s.sentAll = true) ∧
    (∃ s : State, s.position = .procedure 0 someAsk [] ∧ s.fault = none ∧ s.attached = true ∧ s.await = none ∧
      s.sentAll = true ∧ someAsk.rxCrc = true ∧ someAsk.rxBits % 8 = 0) :=
  ⟨fun _ _ => ⟨rfl, rfl, rfl, rfl⟩, rfl,
    ⟨{ inState .requested [] with position := .anticoll .one, params := { Params.default with anticollCrc := false } },
      rfl, rfl, rfl⟩,
    ⟨{ inState .requested [] with position := .procedure 0 someAsk [] }, rfl, rfl, rfl, rfl, rfl, rfl, rfl⟩⟩

theorem witness_ConnectStartsInRequested :
    ((inState .requested []).accepting ∧ (inState .requested []).session = .requested ∧
        (inState .requested []).params.selectProc = .standard) ∧
      (∃ s : State, s.accepting ∧ s.session = .requested ∧ s.params.selectProc = .custom 0) ∧
      ((inState .halted []).accepting ∧ (inState .halted []).session ≠ .requested) :=
  ⟨⟨⟨rfl, rfl, rfl, rfl⟩, rfl, rfl⟩,
    ⟨{ inState .requested [] with params := { Params.default with selectProc := .custom 0 } }, ⟨rfl, rfl, rfl, rfl⟩,
      rfl, rfl⟩,
    ⟨rfl, rfl, rfl, rfl⟩, nofun⟩

theorem witness_ConnectFollowsItsProcedure :
    (∃ s : State, s.fault = none ∧ s.await = some (selectAskAwait someAsk) ∧ s.position = .procedure 0 someAsk [] ∧
      someAsk.probe = true ∧ s.collides = false ∧ s.crcMode = .sw ∧ ¬ crcPasses s []) ∧
    (∃ s : State, s.fault = none ∧ s.await = some (selectAskAwait someAsk) ∧ s.position = .procedure 0 someAsk [] ∧
      s.crcMode = .hw) ∧
    (∃ s : State, s.fault = none ∧ s.await = some (awaitPlain 40) ∧ s.position = .procedure 0 someAsk [none] ∧
      s.collides = true) :=
  ⟨⟨waits .requested (selectAskAwait someAsk) (.procedure 0 someAsk []), rfl, rfl, rfl, rfl, rfl, rfl,
      fun ⟨b, h⟩ => by simp at h⟩,
   ⟨waitsHw .requested (selectAskAwait someAsk) (.procedure 0 someAsk []), rfl, rfl, rfl, rfl⟩,
   ⟨{ waits .requested (awaitPlain 40) (.procedure 0 someAsk [none]) with env := ⟨[], [], [true], 0⟩ },
      rfl, rfl, rfl, rfl⟩⟩

/-- T74: the answers of a tag with UID `04 A1 B2 C3 D4 E5 F6`, in `SW` mode (the trailers of T74) and in `HW` mode, and
without CRC on the anticollision requests. -/
theorem witness_ConnectCapturesTheUid :
    (∀ s ∈ [{ inState .requested [] with cmd := [⟨[0xE1], 8⟩] }, { inHw .requested [] with cmd := [⟨[0xE1], 8⟩] },
        { inState .requested [] with
          cmd := [⟨[0xE1], 8⟩], params := { Params.default with anticollCrc := false } }],
      ∃ e : State, e = { s with env := ⟨[true, true, true, true],
        [⟨40, [0x88, 0x04, 0xA1, 0xB2, 0x88 ^^^ 0x04 ^^^ 0xA1 ^^^ 0xB2], true⟩, goodAnswer s [0x04],
          ⟨40, [0xC3, 0xD4, 0xE5, 0xF6, 0xC3 ^^^ 0xD4 ^^^ 0xE5 ^^^ 0xF6], true⟩, goodAnswer s [0x00]],
        [false, false], 0⟩ } ∧ e.atRest ∧ e.attached = true ∧ e.session = .requested ∧ e.params.selectProc = .standard ∧
        e.cmd = [(⟨[0xE1], 8⟩ : Frame)] ∧ goodAnswer e [0x04] = goodAnswer s [0x04]) ∧
    (0x04 : Byte).getLsbD 2 = true ∧ (0x00 : Byte).getLsbD 2 = false ∧
    goodAnswer (inState .requested []) [0x04] = ⟨24, [0x04, 0xDA, 0x17], false⟩ ∧
    goodAnswer (inState .requested []) [0x00] = ⟨24, [0x00, 0xFE, 0x51], false⟩ := by
  refine ⟨fun s hs => ⟨_, rfl, ?_⟩, by decide, by decide, by decide +kernel, by decide +kernel⟩
  simp only [List.mem_cons, List.not_mem_nil, or_false] at hs
  rcases hs with rfl | rfl | rfl <;> exact ⟨⟨rfl, rfl, rfl, rfl⟩, rfl, rfl, rfl, rfl, rfl⟩

theorem witness_ConnectStopsOnBadAnswers :
    (∃ s : State, s.fault = none ∧ s.await = some ⟨40, false, .payload⟩ ∧ s.position = .anticoll .one ∧
      s.collides = false ∧ (0x88 : Byte) ^^^ 0x04 ^^^ 0xA1 ^^^ 0xB2 ≠ 0x9E ∧ (0x08 : Byte) ≠ 0x88) ∧
    (∃ s : State, s.fault = none ∧ s.await = some ⟨40, false, .payload⟩ ∧ s.position = .anticoll .one ∧
      s.collides = true) ∧
    (∃ s : State, s.fault = none ∧ s.await = some ⟨8, true, .payload⟩ ∧
      s.position = .select .one ⟨0x88, 0, 0, 0⟩ ∧ s.crcMode = .hw ∧
      (0x00 : Byte).getLsbD 2 ≠ decide ((.one : Cascade) = .one)) ∧
    (∃ s : State, s.fault = none ∧ s.await = some ⟨8, true, .payload⟩ ∧
      s.position = .select (.two ⟨0, 0, 0⟩) ⟨0, 0, 0, 0⟩ ∧ s.crcMode = .sw ∧ ¬ crcPasses s [0x04] ∧
      (0x04 : Byte).getLsbD 2 ≠ decide ((.two ⟨0, 0, 0⟩ : Cascade) = .one)) :=
  ⟨⟨waits .requested ⟨40, false, .payload⟩ (.anticoll .one), rfl, rfl, rfl, rfl, by decide, by decide⟩,
   ⟨{ waits .requested ⟨40, false, .payload⟩ (.anticoll .one) with env := ⟨[], [], [true], 0⟩ }, rfl, rfl, rfl, rfl⟩,
   ⟨{ waits .requested ⟨8, true, .payload⟩ (.select .one ⟨0x88, 0, 0, 0⟩) with crcMode := .hw }, rfl, rfl, rfl, rfl,
    by decide⟩,
   ⟨waits .requested ⟨8, true, .payload⟩ (.select (.two ⟨0, 0, 0⟩) ⟨0, 0, 0, 0⟩), rfl, rfl, rfl, rfl,
    fun ⟨b, h⟩ => by simpa using congrArg List.length h, by decide⟩⟩

theorem witness_HaltSleeps :
    ((inState .authenticated []).accepting ∧ (inState .authenticated []).connected = true ∧
      (inState .authenticated []).sentAll = true) ∧
    ((deaf .selected).accepting ∧ (deaf .selected).connected = true ∧ (deaf .selected).sentAll = false) :=
  ⟨⟨⟨rfl, rfl, rfl, rfl⟩, rfl, rfl⟩, deaf_accepts⟩

theorem witness_DisconnectAndDestroy : (inState .authenticated []).accepting := ⟨rfl, rfl, rfl, rfl⟩

theorem witness_TimeoutDisconnects :
    listens (authWait .authenticated) ⟨16, true, .payload⟩ ∧
      listens (waits .requested ⟨40, false, .payload⟩ (.anticoll .one)) ⟨40, false, .payload⟩ :=
  ⟨⟨rfl, nofun, nofun⟩, rfl, nofun, nofun⟩

theorem witness_LinkFailureNeedsReconnect :
    listens (waits .selected awaitAck .finishAck) awaitAck ∧
    (∃ t, (inState .disconnected []).accepting ∧ (inState .disconnected []).session = .disconnected ∧
      exec .connect (inState .disconnected []) = .next t) ∧
    gated .getVersion = true :=
  ⟨⟨rfl, nofun, nofun⟩, ⟨_, ⟨rfl, rfl, rfl, rfl⟩, rfl, rfl⟩, rfl⟩

theorem witness_ReadCommandsListen :
    ((inState .selected []).accepting ∧ (inState .selected []).connected = true ∧
      (inState .selected []).sentAll = true) ∧
    (inState .selected []).params.cntBits % 8 = 0 ∧ (inState .selected []).params.sigBits % 8 = 0 :=
  ⟨selected_accepts [], rfl, rfl⟩

/-- T95, T29 and T96: the widest range, one page, and a reversed range. -/
theorem witness_FastReadRequestsItsRange :
    (inState .selected []).accepting ∧ (inState .idle []).accepting ∧ (inState .idle []).connected = false ∧
    (inState .selected []).connected = true ∧ (inState .selected []).sentAll = true ∧
    ((0xFF : Byte).toNat + 1 = (0x00 : Byte).toNat + 256 ∧ (0x05 : Byte).toNat + 1 = (0x05 : Byte).toNat + 1 ∧
      (0x04 : Byte).toNat < (0x07 : Byte).toNat) :=
  ⟨⟨rfl, rfl, rfl, rfl⟩, ⟨rfl, rfl, rfl, rfl⟩, rfl, rfl, rfl, by decide⟩

theorem witness_PayloadReceiveEnds :
    (∃ s : State, s.fault = none ∧ s.await = some ⟨128, true, .payload⟩ ∧ s.position = .finish 16 ∧
      s.crcMode = .sw ∧ ¬ crcPasses s [0x0A]) ∧
    (∃ s : State, s.fault = none ∧ s.await = some ⟨128, true, .payload⟩ ∧ s.position = .finish 16 ∧
      s.crcMode = .hw) :=
  ⟨⟨waits .selected ⟨128, true, .payload⟩ (.finish 16), rfl, rfl, rfl, rfl,
      witness_FailedPayloadNeverVisible.1.2⟩,
   ⟨{ waits .selected ⟨128, true, .payload⟩ (.finish 16) with crcMode := .hw }, rfl, rfl, rfl, rfl⟩⟩

theorem witness_ReadCommandsAreOneExchange :
    (∃ t, (inHw .selected []).accepting ∧ exec .getVersion (inHw .selected []) = .next t ∧
      (inHw .selected []).connected = true ∧ t.fault = none) ∧
    (∃ t, (deaf .selected).accepting ∧ exec .getVersion { deaf .selected with crcMode := .hw } = .next t ∧
      t.fault ≠ none) ∧
    (∃ t, (inState .idle []).accepting ∧ exec .getVersion (inState .idle []) = .next t ∧
      (inState .idle []).connected = false) :=
  ⟨⟨_, ⟨rfl, rfl, rfl, rfl⟩, rfl, rfl, rfl⟩, ⟨_, ⟨rfl, rfl, rfl, rfl⟩, rfl, nofun⟩, ⟨_, ⟨rfl, rfl, rfl, rfl⟩, rfl, rfl⟩⟩

theorem witness_ReadDeliversSixteenBytes :
    ∃ s : State, s.atRest ∧ s.attached = true ∧ s.connected = true ∧ s.crcMode = .sw ∧ s.sentAll = true ∧
      s.cmd = [(⟨[0x30, 0x04], 16⟩ : Frame)] ∧
      s.env.rx = ⟨144, t8.toList ++ [lo8 (s.crc16 t8.toList), hi8 (s.crc16 t8.toList)], false⟩ :: [] :=
  ⟨{ inState .selected [⟨144, t8.toList ++ [lo8 (crcA t8.toList), hi8 (crcA t8.toList)], false⟩] with
      cmd := [⟨[0x30, 0x04], 16⟩] }, ⟨rfl, rfl, rfl, rfl⟩, rfl, rfl, rfl, rfl, rfl, rfl⟩

theorem witness_WriteCommandsListen :
    ((inState .selected []).accepting ∧ (inState .selected []).connected = true ∧
      (inState .selected []).sentAll = true) ∧
    (∃ s : State, s.fault = none ∧ s.await = none ∧ s.position = .compPhase2 ∧ s.sentAll = true) ∧
    ((inState .selected []).fault = none ∧ (inState .selected []).position ≠ .compPhase2) :=
  ⟨selected_accepts [], ⟨{ inState .selected [] with position := .compPhase2 }, rfl, rfl, rfl, rfl⟩, rfl, nofun⟩

theorem witness_AckReceiveEnds :
    (waits .selected ⟨4, false, .ackOnly⟩ .finishAck).await = some ⟨4, false, .ackOnly⟩ ∧
      (waits .selected ⟨4, false, .ackOnly⟩ .finishAck).position = .finishAck ∧
      nakOf .nakDisconnected = some .nakDisconnected := by decide

theorem witness_PhaseTwoOnlyOnAck :
    ∃ t, (waits .selected ⟨4, false, .ackOnly⟩ (.compPhase1 t33)).await = some ⟨4, false, .ackOnly⟩ ∧
      (waits .selected ⟨4, false, .ackOnly⟩ (.compPhase1 t33)).position = .compPhase1 t33 ∧
      isResponse .nakArgument = true ∧
      exec .nakArgument (waits .selected ⟨4, false, .ackOnly⟩ (.compPhase1 t33)) = .next t :=
  ⟨_, rfl, rfl, rfl, rfl⟩

theorem witness_CompWriteTwoPhases :
    ∃ s : State, s.atRest ∧ s.attached = true ∧ s.connected = true ∧
      s.cmd = [Frame.ofBytes ([0xA0, 0x06] ++ t33.toList)] ∧ s.env.sent = [true, true] ∧
      s.env.rx = ⟨4, [0x0A], true⟩ :: ⟨4, [0x0A], false⟩ :: [] :=
  ⟨{ inState .selected [] with
      cmd := [Frame.ofBytes ([0xA0, 0x06] ++ t33.toList)],
      env := ⟨[true, true], [⟨4, [0x0A], true⟩, ⟨4, [0x0A], false⟩], [], 0⟩ },
    ⟨rfl, rfl, rfl, rfl⟩, rfl, rfl, rfl, rfl, rfl⟩

theorem witness_PwdAuthListens :
    (inState .selected []).accepting ∧ (inState .selected []).connected = true ∧ (inState .selected []).sentAll = true :=
  selected_accepts []

theorem witness_PwdAuthSucceedsOnlyOnPack :
    ((authWait .selected).fault = none ∧ (authWait .selected).await = some ⟨16, true, .payload⟩ ∧
      (authWait .selected).position = .pwdAuth ∧ (authWait .selected).crcMode = .sw) ∧
    (∃ s : State, s.fault = none ∧ s.await = some ⟨16, true, .payload⟩ ∧ s.position = .pwdAuth ∧ s.crcMode = .hw) ∧
    isResponse .timeout = true ∧ isResponse .ack = true :=
  ⟨⟨rfl, rfl, rfl, rfl⟩, ⟨{ authWait .selected with crcMode := .hw }, rfl, rfl, rfl, rfl⟩, rfl, rfl⟩

theorem witness_MismatchIsNotSuccess :
    ((authWait .selected).await = some ⟨16, true, .payload⟩ ∧ (authWait .selected).position = .pwdAuth ∧
      (authWait .selected).crcMode = .sw ∧ [0xAA, 0xBC] ≠ (authWait .selected).settings.pack.toList) ∧
    ({ authWait .selected with crcMode := .hw } : State).crcMode = .hw ∧
    (∃ t, exec .ack (authWait .selected) = .next t ∧ t.result = .authMismatch) :=
  ⟨by decide, rfl, ⟨_, rfl, rfl⟩⟩

theorem witness_SettingsMacrosBegin :
    (inState .selected []).accepting ∧ (inState .selected []).connected = true ∧ (inState .selected []).sentAll = true :=
  selected_accepts []

theorem witness_ReadSettingsCollectsFourPages :
    ∃ (s : State) (w : List Byte), s.atRest ∧ s.attached = true ∧ s.connected = true ∧ s.crcMode = .hw ∧
      s.cmd = [(⟨[0xE4], 8⟩ : Frame)] ∧ w.length = 12 ∧
      s.env = ⟨[true, true, true, true],
        [⟨128, t33.p0.toList ++ w, true⟩, ⟨128, t33.p1.toList ++ w, true⟩, ⟨128, t33.p2.toList ++ w, true⟩,
          ⟨128, t33.p3.toList ++ w, true⟩], [], 0⟩ :=
  ⟨{ inHw .selected [] with
      cmd := [⟨[0xE4], 8⟩],
      env := ⟨[true, true, true, true],
        [⟨128, t33.p0.toList ++ List.replicate 12 0, true⟩, ⟨128, t33.p1.toList ++ List.replicate 12 0, true⟩,
          ⟨128, t33.p2.toList ++ List.replicate 12 0, true⟩, ⟨128, t33.p3.toList ++ List.replicate 12 0, true⟩],
        [], 0⟩ },
    List.replicate 12 0, ⟨rfl, rfl, rfl, rfl⟩, rfl, rfl, rfl, rfl, rfl, rfl⟩

theorem witness_WriteSettingsFourWrites :
    ∀ m : CrcMode, ∃ s : State, s.atRest ∧ s.attached = true ∧ s.connected = true ∧ s.crcMode = m ∧
      s.cmd = [Frame.ofBytes (0xE5 :: (packStandard t122).toList)] ∧ s.env.sent = [true, true, true, true] ∧
      s.env.rx = [⟨4, [0x0A], true⟩, ⟨4, [0x0A], true⟩, ⟨4, [0x0A], true⟩, ⟨4, [0x0A], true⟩] ∧
      ({ s with env := { s.env with rx := [⟨4, [0x0A], true⟩, ⟨4, [0x05], true⟩] } } : State).env.rx
        = [⟨4, [0x0A], true⟩, ⟨4, [0x05], true⟩] :=
  fun m => ⟨{ inState .selected [⟨4, [0x0A], true⟩, ⟨4, [0x0A], true⟩, ⟨4, [0x0A], true⟩, ⟨4, [0x0A], true⟩] with
      crcMode := m, cmd := [Frame.ofBytes (0xE5 :: (packStandard t122).toList)] },
    ⟨rfl, rfl, rfl, rfl⟩, rfl, rfl, rfl, rfl, rfl, rfl, rfl⟩

theorem witness_SettingsMacrosStopAtFirstNak :
    (∃ s t : State, s.await = some ⟨128, true, .payload⟩ ∧ s.fault = none ∧ s.position = .readSettings [] ∧
      exec .nakArgument s = .next t ∧ t.position = .idle ∧ t.result ≠ .code .ack) ∧
    (∃ s t : State, s.await = some awaitAck ∧ s.fault = none ∧ s.position = .writeSettings t122 3 ∧
      exec .nakWriteError s = .next t ∧ t.position = .idle ∧ t.result ≠ .code .ack) ∧
    (awaitAck.kind = .ackOnly ∧ (awaitPayload 128).kind = .payload ∧ (awaitPayload 128).crc = true ∧
      ¬ crcPasses (inState .selected []) []) :=
  ⟨⟨waits .selected ⟨128, true, .payload⟩ (.readSettings []), _, rfl, rfl, rfl, rfl, rfl, nofun⟩,
   ⟨waits .selected awaitAck (.writeSettings t122 3), _, rfl, rfl, rfl, rfl, rfl, nofun⟩,
   rfl, rfl, rfl, fun ⟨b, h⟩ => by simp at h⟩

theorem witness_FaultyExchangesStopBeforeTheReceive :
    ((deaf .selected).accepting ∧ (deaf .selected).connected = true ∧ (deaf .selected).sentAll = false) ∧
    (∀ p ∈ [Position.idle, .anticoll .one, .select .one ⟨0x88, 0, 0, 0⟩, .procedure 0 someAsk []],
      ({ deaf .requested with position := p } : State).fault = none ∧
      ({ deaf .requested with position := p } : State).attached = true ∧
      ({ deaf .requested with position := p } : State).await = none ∧
      ({ deaf .requested with position := p } : State).sentAll = false) ∧
    (∃ s : State, s.accepting ∧ s.connected = true ∧ s.sentAll = true ∧ s.params.cntBits % 8 ≠ 0 ∧
      s.params.sigBits % 8 ≠ 0) ∧
    (∃ (s : State) (ask : SelectAsk), s.fault = none ∧ s.attached = true ∧ s.await = none ∧ s.sentAll = true ∧
      s.position = .procedure 0 ask [] ∧ ask.rxCrc = true ∧ ask.rxBits % 8 ≠ 0) :=
  ⟨deaf_accepts, fun _ _ => ⟨rfl, rfl, rfl, rfl⟩,
   ⟨{ inState .selected [] with params := { Params.default with cntBits := 12, sigBits := 4 } },
    ⟨rfl, rfl, rfl, rfl⟩, rfl, rfl, by decide, by decide⟩,
   ⟨{ inState .requested [] with position := .procedure 0 { someAsk with rxBits := 7 } [] },
    { someAsk with rxBits := 7 }, rfl, rfl, rfl, rfl, rfl, rfl, by decide⟩⟩

theorem witness_AbsentOperandFaults :
    (∃ s : State, s.atRest ∧ s.attached = true ∧ s.cmd = [(⟨[0xA2, 0x05], 16⟩ : Frame)] ∧ s.connected = true) ∧
    (∃ s : State, s.atRest ∧ s.attached = true ∧ s.cmd = [(⟨[0xE5], 8⟩ : Frame)] ∧ s.connected = false) :=
  ⟨⟨{ inState .selected [] with cmd := [⟨[0xA2, 0x05], 16⟩] }, ⟨rfl, rfl, rfl, rfl⟩, rfl, rfl, rfl⟩,
   ⟨{ inState .idle [] with cmd := [⟨[0xE5], 8⟩] }, ⟨rfl, rfl, rfl, rfl⟩, rfl, rfl, rfl⟩⟩

end Sys2Proof.Tests
end

section
/-! The CRC engine's check characterised by its append (R61, R113, R114), for every CRC function. -/

namespace Sys2Proof.Machine

variable {f : List Byte → Word16} {r p : List Byte}

theorem crcAppend_eq (f : List Byte → Word16) (b : List Byte) : crcAppend f b = b ++ [lo8 (f b), hi8 (f b)] := rfl

/-- R114: the strings that pass the check are exactly those R113 makes. -/
theorem crcCheck_eq_some_iff : crcCheck f r = some p ↔ r = crcAppend f p := by
  constructor
  · intro h
    unfold crcCheck at h
    split at h
    case isTrue => cases h
    case isFalse =>
      split at h
      case isTrue htrailer =>
        cases h
        rw [crcAppend, ← htrailer, List.take_append_drop]
      case isFalse => cases h
  · rintro rfl
    simp [crcCheck, crcAppend, crcTrailer]

/-- A string of at least two bytes, taken apart before its last two. -/
theorem eq_append_pair_iff {x y : Byte} (hr : 2 ≤ r.length) :
    r = p ++ [x, y] ↔
      p = r.take (r.length - 2) ∧ r[r.length - 2]? = some x ∧ r[r.length - 1]? = some y := by
  constructor
  · rintro rfl
    simp
  · rintro ⟨rfl, hx, hy⟩
    obtain ⟨_, rfl⟩ := List.getElem?_eq_some_iff.mp hx
    obtain ⟨_, rfl⟩ := List.getElem?_eq_some_iff.mp hy
    have hlast : r.length - 2 + 1 = r.length - 1 := by omega
    have hend : r.length - 1 + 1 = r.length := by omega
    have hdrop : r.drop (r.length - 2) = [r[r.length - 2], r[r.length - 1]] := by
      rw [List.drop_eq_getElem_cons (by omega), hlast, List.drop_eq_getElem_cons (by omega), hend, List.drop_length]
    rw [← hdrop, List.take_append_drop]

/-- Settles O7: a string passes exactly when it is `crcAppend f p`, which is then read off at its last two positions. -/
theorem crcTrailerLowByteFirst : Obligations.CrcTrailerLowByteFirst := fun f =>
  ⟨crcAppend_eq f, fun _ _ hr => crcCheck_eq_some_iff.trans (eq_append_pair_iff hr)⟩

end Sys2Proof.Machine
end

section
/-! What an instruction adds to the frames already sent (R76, R116): nothing, or one frame that opens with its opcode (R81). -/

namespace Sys2Proof.Machine

open Sys2Proof.Claims

/-- The transmit calls of the history, newest first. -/
def State.sends (s : State) : List Event := s.events.filter fun e => (frameOf e).isSome

/-- The event sends a frame whose first byte is one of the thirteen opcodes. -/
def opensWithOpcode (e : Event) : Prop := ∃ f, frameOf e = some f ∧ ∃ o ∈ opcodes, f.bytes.head? = some o

/-- From `s` to `t` at most one frame was sent, and it opens with an opcode. -/
def OpcodeSent (s t : State) : Prop := t.sends = s.sends ∨ ∃ e, opensWithOpcode e ∧ t.sends = e :: s.sends

variable {s t : State}

theorem State.mem_sends {e : Event} : e ∈ s.sends ↔ e ∈ s.events ∧ (frameOf e).isSome := List.mem_filter

theorem State.record_sends_of_frame {e : Event} (h : (frameOf e).isSome = true) : (s.record e).sends = e :: s.sends :=
  List.filter_cons_of_pos h

@[simp] theorem State.record_probe_sends : (s.record .probe).sends = s.sends := rfl
@[simp] theorem State.complete_sends (r : Result) (b : List Byte) : (s.complete r b).sends = s.sends := rfl
@[simp] theorem State.raised_sends (k : FaultKind) : (s.raised k).sends = s.sends := rfl
@[simp] theorem State.setSession_sends (x : Session) : (s.setSession x).sends = s.sends := rfl
@[simp] theorem State.setUid_sends (u : Uid) : (s.setUid u).sends = s.sends := rfl
@[simp] theorem State.setSettings_sends (r : Settings) : (s.setSettings r).sends = s.sends := rfl
@[simp] theorem State.clearFault_sends : s.clearFault.sends = s.sends := rfl
@[simp] theorem State.goto_sends (p : Position) : (s.goto p).sends = s.sends := rfl
@[simp] theorem State.load_sends (f : Frame) : (s.load f).sends = s.sends := rfl
@[simp] theorem State.disarm_sends : s.disarm.sends = s.sends := rfl
@[simp] theorem State.create_sends (v : Variant) (t : Transport) (m : CrcMode) : (s.create v t m).sends = s.sends := rfl
@[simp] theorem State.afterProbe_sends : s.afterProbe.sends = s.sends := rfl

theorem frameOf_rxCall (a : Await) : frameOf (s.rxCall a) = none := by
  unfold State.rxCall
  repeat' split
  all_goals rfl

/-- A receive call sends no frame. -/
@[simp] theorem State.listening_sends (a : Await) (p : Position) : (s.listening a p).sends = s.sends :=
  List.filter_cons_of_neg (by simp [frameOf_rxCall])

/-- The frame of a transmit call opens with the payload's first byte, with or without the trailer behind it (R116). -/
theorem frameOf_txCall {b : List Byte} {op : Byte} (n : Nat) (crc : Bool) (hb : b.head? = some op) :
    ∃ f, frameOf (s.txCall b n crc) = some f ∧ f.bytes.head? = some op := by
  unfold State.txCall
  repeat' split
  all_goals exact ⟨_, rfl, by simp [crcAppend, hb]⟩

theorem transmitted_sends {b : List Byte} {op : Byte} (n : Nat) (crc : Bool) (hb : b.head? = some op) :
    (s.transmitted b n crc).sends = s.txCall b n crc :: s.sends := by
  obtain ⟨f, hf, _⟩ := frameOf_txCall (s := s) n crc hb
  exact State.record_sends_of_frame (by simp [hf])

/-- Handing over a payload that opens with an opcode, and no frame after it. -/
theorem opcodeSent_of_transmitted {b : List Byte} {op : Byte} {n : Nat} {crc : Bool} (hb : b.head? = some op)
    (hop : op ∈ opcodes) (h : t.sends = (s.transmitted b n crc).sends) : OpcodeSent s t :=
  have ⟨f, hf, hhead⟩ := frameOf_txCall (s := s) n crc hb
  .inr ⟨_, ⟨f, hf, op, hop, hhead⟩, h.trans (transmitted_sends n crc hb)⟩

/-- A frame that is sent, and followed by nothing that sends another. -/
theorem txFrame_opcodeSent {b : List Byte} {op : Byte} {n : Nat} {crc : Bool} {body : State → Out}
    (hb : b.head? = some op) (hop : op ∈ opcodes) (hbody : ∀ s', body s' = .next t → t.sends = s'.sends)
    (h : (txFrame s b n crc).andThen body = .next t) : OpcodeSent s t := by
  rcases txFrame_cases s b n crc with ⟨_, hr⟩ | ⟨_, _, _, hr⟩ | ⟨_, _, _, hr⟩ | ⟨_, _, _, hr⟩ <;> rw [hr] at h
  · cases h; exact .inl (State.raised_sends _)
  · cases h; exact .inl (State.raised_sends _)
  · cases h; exact opcodeSent_of_transmitted hb hop rfl
  · exact opcodeSent_of_transmitted hb hop (hbody _ h)

theorem exchange_opcodeSent {b : List Byte} {op : Byte} {n : Nat} {crc : Bool} {after : State → State} {a : Await}
    {p : Position} (hb : b.head? = some op) (hop : op ∈ opcodes) (hafter : ∀ s, (after s).sends = s.sends)
    (h : exchange b n crc after a p s = .next t) : OpcodeSent s t := by
  rcases exchange_next h with ⟨_, rfl⟩ | ⟨_, _, rfl⟩ | ⟨_, rfl⟩ | ⟨_, _, _, rfl⟩ | ⟨_, rfl⟩
  · exact .inl (State.raised_sends _)
  · exact .inl (State.raised_sends _)
  · exact opcodeSent_of_transmitted hb hop rfl
  · exact opcodeSent_of_transmitted hb hop (hafter _)
  · exact opcodeSent_of_transmitted hb hop ((State.listening_sends a p).trans (hafter _))

/-- The checks at the head of a command send nothing. -/
theorem accept_opcodeSent {g : Bool} {own : Position → Bool} {body : State → Out}
    (hbody : body s = .next t → OpcodeSent s t) (h : accept g own s body = .next t) : OpcodeSent s t := by
  obtain ⟨_, _, _, ⟨_, _, rfl⟩ | ⟨_, hb⟩⟩ := accept_next h
  · exact .inl (State.complete_sends _ _)
  · exact hbody hb

theorem followProcedure_sends {k : Nat} {answers : List (Option (List Byte))}
    (h : followProcedure k answers s = .next t) : t.sends = s.sends := by
  rcases followProcedure_next h with ⟨_, rfl⟩ | ⟨_, _, rfl⟩ | ⟨_, _, rfl⟩ <;> simp

theorem resumeProcedure_sends {k : Nat} {ask : SelectAsk} {answers : List (Option (List Byte))} {c : AckCode}
    {p : Option (List Byte)} (h : resumeProcedure k ask answers c p s = .next t) : t.sends = s.sends := by
  rcases resumeProcedure_next h with ⟨_, rfl⟩ | ⟨_, s', hs', hf⟩
  · simp
  · have hprobe : s'.sends = s.sends := by rcases hs' with rfl | rfl <;> simp
    exact (followProcedure_sends hf).trans hprobe

theorem resumeCompPhase1_sends {d : Bytes16} {c : AckCode} (h : resumeCompPhase1 d c s = .next t) :
    t.sends = s.sends := by
  unfold resumeCompPhase1 at h
  split at h <;> cases h <;> simp

theorem resumePwdAuth_sends {c : AckCode} {p : Option (List Byte)} (h : resumePwdAuth c p s = .next t) :
    t.sends = s.sends := by
  rcases resumePwdAuth_next h with ⟨_, _, rfl⟩ | ⟨_, rfl⟩
  · simp
  · rw [State.complete_sends]
    split <;> simp

theorem resumeReadSettings_sends {done : List Bytes4} {c : AckCode} {p : Option (List Byte)}
    (h : resumeReadSettings done c p s = .next t) : t.sends = s.sends := by
  rcases resumeReadSettings_next h with
    ⟨_, rfl⟩ | ⟨_, rfl⟩ | ⟨_, _, _, _, _, ⟨_, _, _, _, rfl⟩ | ⟨_, rfl⟩⟩ <;> simp

/-- What follows a receive puts at most a next frame into the TX buffer; it sends none. -/
theorem resume_sends {c : AckCode} {p : Option (List Byte)} (h : resume c p s = .next t) : t.sends = s.sends := by
  cases hp : s.position <;> simp only [resume, hp] at h
  case idle | compPhase2 => cases h
  case finish bytes => rcases finish_next h with ⟨_, _, _, _, rfl⟩ | ⟨_, rfl⟩ | ⟨_, rfl⟩ <;> simp
  case finishAck => cases h; simp
  case pwdAuth => exact resumePwdAuth_sends h
  case compPhase1 d => exact resumeCompPhase1_sends h
  case anticoll l => rcases resumeAnticoll_next h with ⟨_, rfl⟩ | ⟨_, rfl⟩ | ⟨_, _, _, _, rfl⟩ <;> simp
  case select l r =>
    rcases resumeSelect_next h with ⟨_, rfl⟩ | ⟨_, rfl⟩ | ⟨_, _, rfl⟩ | ⟨_, _, _, _, _, rfl⟩ <;> simp
  case procedure k ask answers => exact resumeProcedure_sends h
  case readSettings done => exact resumeReadSettings_sends h
  case writeSettings r i => rcases resumeWriteSettings_next h with ⟨_, rfl⟩ | ⟨_, _, rfl⟩ | ⟨_, _, rfl⟩ <;> simp

theorem respond_sends {r : Response} (h : respond r s = .next t) : t.sends = s.sends := by
  obtain ⟨a, _, hr⟩ := respond_next h
  have hstate : (rxFrame s.disarm a r).state.sends = s.sends := by
    rcases rxFrame_state s.disarm a r with he | ⟨_, he, _⟩ <;> simp [he]
  exact (resume_sends hr).trans hstate

theorem probeTag_opcodeSent {b : List Byte} {op : Byte} {n : Nat} {crc : Bool} (hb : b.head? = some op)
    (hop : op ∈ opcodes) (h : probeTag b n crc s = .next t) : OpcodeSent s t :=
  accept_opcodeSent (exchange_opcodeSent (after := State.setSession .requested) hb hop fun _ => rfl) h

/-- A select frame, at each position where one is due and alone. -/
theorem sendSelect_opcodeSent {op nvb : Byte} {u : List Byte} (hop : op ∈ opcodes)
    (h : sendSelect op nvb u s = .next t) : OpcodeSent s t := by
  refine accept_opcodeSent (fun hb => ?_) h
  split at hb
  · exact exchange_opcodeSent rfl hop (fun _ => rfl) hb
  · exact exchange_opcodeSent rfl hop (fun _ => rfl) hb
  · exact exchange_opcodeSent rfl hop (fun _ => rfl) hb
  · exact txFrame_opcodeSent rfl hop (fun _ hn => by cases hn; rfl) hb

theorem execRead_opcodeSent {p : Byte} (h : execRead p s = .next t) : OpcodeSent s t := by
  refine accept_opcodeSent (fun hb => ?_) h
  split at hb <;> exact exchange_opcodeSent rfl (by decide) (fun _ => rfl) hb

theorem execFastRead_opcodeSent {a e : Byte} (h : execFastRead a e s = .next t) : OpcodeSent s t := by
  refine accept_opcodeSent (fun hb => ?_) h
  split at hb
  · cases hb; exact .inl (State.raised_sends _)
  · exact exchange_opcodeSent rfl (by decide) (fun _ => rfl) hb

theorem execHalt_opcodeSent (h : execHalt s = .next t) : OpcodeSent s t :=
  accept_opcodeSent (txFrame_opcodeSent rfl (by decide) fun _ hn => by cases hn; rfl) h

theorem execAttach_sends {v : Byte} {tr : Transport} {m : CrcMode} (h : execAttach v tr m s = .next t) :
    t.sends = s.sends := by
  unfold execAttach at h
  split at h
  · cases h
  · split at h <;> cases h <;> simp

/-- A command that is over, or stops at its next frame, without an exchange. -/
theorem accept_next_sends {g : Bool} {own : Position → Bool} {f : State → State}
    (h : accept g own s (fun s => .next (f s)) = .next t) (hf : (f s).sends = s.sends) : t.sends = s.sends := by
  obtain ⟨_, _, _, ⟨_, _, rfl⟩ | ⟨_, hb⟩⟩ := accept_next h
  · simp
  · cases hb
    exact hf

theorem execDisconnect_sends (h : execDisconnect s = .next t) : t.sends = s.sends := accept_next_sends h rfl

theorem execDestroy_sends (h : execDestroy s = .next t) : t.sends = s.sends := accept_next_sends h rfl

/-- READ_SETTINGS puts its first frame into the TX buffer and sends none itself (R220). -/
theorem execReadSettings_sends (h : execReadSettings s = .next t) : t.sends = s.sends := accept_next_sends h rfl

theorem execWriteSettings_sends {r : Settings} (h : execWriteSettings r s = .next t) : t.sends = s.sends :=
  accept_next_sends h rfl

theorem execConnect_opcodeSent (h : execConnect s = .next t) : OpcodeSent s t := by
  refine accept_opcodeSent (fun hb => .inl ?_) h
  repeat' split at hb
  · cases hb; simp
  · exact followProcedure_sends hb
  · cases hb; simp

/-- R81: whatever instruction runs, but for the data frame of COMP_WRITE (R80), it sends at most one frame, and that
frame opens with an opcode. -/
theorem exec_opcodeSent {i : Instr} (h : exec i s = .next t) (hi : ∀ d, i ≠ .compWriteP2 d) : OpcodeSent s t := by
  cases i with
  | request => exact probeTag_opcodeSent rfl (by decide) h
  | wakeup => exact probeTag_opcodeSent rfl (by decide) h
  | halt => exact execHalt_opcodeSent h
  | getVersion => exact accept_opcodeSent (exchange_opcodeSent rfl (by decide) fun _ => rfl) h
  | read p => exact execRead_opcodeSent h
  | fastRead a e => exact execFastRead_opcodeSent h
  | write p d => exact accept_opcodeSent (exchange_opcodeSent rfl (by decide) fun _ => rfl) h
  | compWriteP1 p d => exact accept_opcodeSent (exchange_opcodeSent rfl (by decide) fun _ => rfl) h
  | compWriteP2 d => exact absurd rfl (hi d)
  | readCnt n => exact accept_opcodeSent (exchange_opcodeSent rfl (by decide) fun _ => rfl) h
  | pwdAuth w => exact accept_opcodeSent (exchange_opcodeSent rfl (by decide) fun _ => rfl) h
  | readSig => exact accept_opcodeSent (exchange_opcodeSent rfl (by decide) fun _ => rfl) h
  | selectL1 nvb u => exact sendSelect_opcodeSent (by decide) h
  | selectL2 nvb u => exact sendSelect_opcodeSent (by decide) h
  | ack | nakArgument | nakCrc | nakAuthOverflow | nakWriteError | nakTimeout | nakDisconnected | payload | timeout =>
    exact .inl (respond_sends h)
  | attach v tr m => exact .inl (execAttach_sends h)
  | disconnect => exact .inl (execDisconnect_sends h)
  | destroy => exact .inl (execDestroy_sends h)
  | connect => exact execConnect_opcodeSent h
  | readSettings => exact .inl (execReadSettings_sends h)
  | writeSettings r => exact .inl (execWriteSettings_sends h)

/-- A transmit call of the later history is an old one, or the one frame that was added. -/
theorem OpcodeSent.of_mem {e : Event} {f : Frame} (h : OpcodeSent s t) (he : e ∈ t.events) (hf : frameOf e = some f) :
    e ∈ s.events ∨ ∃ o ∈ opcodes, f.bytes.head? = some o := by
  have hmem : e ∈ t.sends := State.mem_sends.mpr ⟨he, by simp [hf]⟩
  rcases h with hsame | ⟨e', ⟨f', hf', hopens⟩, hadded⟩
  · exact .inl (State.mem_sends.mp (hsame ▸ hmem)).1
  · rw [hadded] at hmem
    rcases List.mem_cons.mp hmem with rfl | hold
    · obtain rfl := Option.some.inj (hf.symm.trans hf')
      exact .inr hopens
    · exact .inl (State.mem_sends.mp hold).1

/-- Settles O3: the values by evaluation, the frames by `exec_opcodeSent`. -/
theorem engineEmitsOnlyItsOpcodes : Obligations.EngineEmitsOnlyItsOpcodes :=
  ⟨by decide, by decide, by decide, fun _ _ _ _ _ h hi => (exec_opcodeSent h hi).of_mem⟩

end Sys2Proof.Machine
end

section
/-! The transport call a frame makes stands in the history afterwards, whatever the receive behind it does (R84 to R91,
R116). -/

namespace Sys2Proof.Machine

open Sys2Proof.Claims

variable {s t : State} {b : List Byte} {n : Nat} {crc : Bool}

/-- With CRC, `TxFrame` makes the call of R91: the trailer appended in `SW` mode, the with-CRC primitive in `HW` mode. -/
theorem txCall_crc (s : State) (b : List Byte) (n : Nat) : s.txCall b n true = wireTx s b n := by
  unfold State.txCall wireTx
  cases s.crcMode <;> rfl

theorem State.accepting.accept_eq {g : Bool} {own : Position → Bool} (hs : s.accepting) (hc : s.connected = true)
    (hown : own .idle = true) (body : State → Out) : accept g own s body = body s := by
  obtain ⟨hfault, hattached, hidle, hawait⟩ := hs
  exact accept_of hfault hattached (by simp [State.ready, hidle, hawait, hown]) fun _ => hc

/-- An exchange whose frame goes out has made its transmit call, also where the receive behind it faults. -/
theorem exchange_txCall_mem {after : State → State} {a : Await} {p : Position} (hn : n ≠ 0)
    (hcrc : crc = true → n % 8 = 0) (hsent : s.sentAll = true) (hafter : ∀ s, (after s).events = s.events)
    (h : exchange b n crc after a p s = .next t) : s.txCall b n crc ∈ t.events := by
  rcases exchange_next h with ⟨h0, _⟩ | ⟨hc, hodd, _⟩ | ⟨hcut, _⟩ | ⟨_, _, _, rfl⟩ | ⟨_, rfl⟩
  · exact absurd h0 hn
  · exact absurd (hcrc hc) hodd
  · simp [hsent] at hcut
  · simp [hafter]
  · simp [hafter]

theorem exchange_wireTx_mem {a : Await} {p : Position} (hn : n ≠ 0) (haligned : n % 8 = 0) (hsent : s.sentAll = true)
    (h : exchange b n true id a p s = .next t) : wireTx s b n ∈ t.events :=
  txCall_crc s b n ▸ exchange_txCall_mem hn (fun _ => haligned) hsent (fun _ => rfl) h

section Accepted

variable (hs : s.accepting) (hc : s.connected = true) (hsent : s.sentAll = true)
include hs hc hsent

/-- REQUEST and WAKEUP. -/
theorem probeTag_txCall_mem (hn : n ≠ 0) (hcrc : crc = true → n % 8 = 0) (h : probeTag b n crc s = .next t) :
    s.txCall b n crc ∈ t.events := by
  rw [probeTag, hs.accept_eq hc rfl] at h
  exact exchange_txCall_mem hn hcrc hsent (State.setSession_events · .requested) h

/-- A command that is one exchange with CRC behind the gate. -/
theorem accept_wireTx_mem {own : Position → Bool} {body : State → Out} {a : Await} {p : Position}
    (h : accept true own s body = .next t) (hown : own .idle = true) (hbody : body s = exchange b n true id a p s)
    (hn : n ≠ 0) (haligned : n % 8 = 0) : wireTx s b n ∈ t.events := by
  rw [hs.accept_eq hc hown, hbody] at h
  exact exchange_wireTx_mem hn haligned hsent h

theorem execHalt_wireTx_mem (h : execHalt s = .next t) : wireTx s [Opcode.halt] 8 ∈ t.events := by
  rw [execHalt, hs.accept_eq hc rfl] at h
  rcases txFrame_cases s [Opcode.halt] 8 true with ⟨h0, _⟩ | ⟨_, _, hodd, _⟩ | ⟨_, _, hcut, _⟩ | ⟨_, _, _, hr⟩
  · cases h0
  · exact absurd rfl hodd
  · simp [hsent] at hcut
  · rw [hr] at h
    cases h
    simp [txCall_crc]

/-- READ by the host: no READ_SETTINGS runs. -/
theorem execRead_wireTx_mem {p : Byte} (h : execRead p s = .next t) : wireTx s [Opcode.read, p] 16 ∈ t.events := by
  have ⟨_, _, hidle, _⟩ := hs
  rw [execRead, hs.accept_eq hc rfl, hidle] at h
  exact exchange_wireTx_mem (by decide) rfl hsent h

theorem execFastRead_wireTx_mem {a e : Byte} (hle : a.toNat ≤ e.toNat) (h : execFastRead a e s = .next t) :
    wireTx s [Opcode.fastRead, a, e] 24 ∈ t.events := by
  rw [execFastRead, hs.accept_eq hc rfl, if_neg (Nat.not_lt.mpr hle)] at h
  exact exchange_wireTx_mem (by decide) rfl hsent h

omit hc in
/-- The data frame of COMP_WRITE, due after an acknowledged phase 1, goes out and its acknowledgement is awaited. -/
theorem execCompWriteP2_wireTx_mem (d : Bytes16) :
    ∃ t, execCompWriteP2 d { s with position := .compPhase2 } = .next t ∧ wireTx s d.toList 128 ∈ t.events := by
  obtain ⟨hfault, _, _, hawait⟩ := hs
  have hexchange : execCompWriteP2 d { s with position := .compPhase2 } =
      exchange d.toList 128 true id awaitAck .finishAck { s with position := .compPhase2 } := by
    simp [execCompWriteP2, hfault, hawait]
  have hnext := hexchange.trans (exchange_of (by decide) (fun _ => rfl) hsent (fun hno => nomatch hno))
  exact ⟨_, hnext, exchange_wireTx_mem (s := { s with position := .compPhase2 }) (by decide) rfl hsent
    (hexchange.symm.trans hnext)⟩

end Accepted

/-- Settles O6: each command is accepted, so its exchange's transmit call stands in the history. -/
theorem framesOnTheWire : Obligations.FramesOnTheWire := by
  intro s hs hc hsent
  refine ⟨fun t h => ?request, fun t h => ?wakeup, fun t h => ?halt,
    fun t (h : execGetVersion s = .next t) => ?getVersion, fun p t h => ?read,
    fun p d t (h : execCompWriteP1 p d s = .next t) => ?compWriteP1,
    fun n t (h : execReadCnt n s = .next t) => ?readCnt, fun t (h : execReadSig s = .next t) => ?readSig,
    fun a e t hle h => ?fastRead, fun p d t (h : execWrite p d s = .next t) => ?write,
    fun w t (h : execPwdAuth w s = .next t) => ?pwdAuth, ?compWriteP2⟩
  case request => exact probeTag_txCall_mem hs hc hsent (crc := false) (by decide) nofun h
  case wakeup => exact txCall_crc s _ _ ▸ probeTag_txCall_mem hs hc hsent (by decide) (fun _ => rfl) h
  case halt => exact execHalt_wireTx_mem hs hc hsent h
  case getVersion => exact accept_wireTx_mem hs hc hsent h rfl rfl (by decide) rfl
  case read => exact execRead_wireTx_mem hs hc hsent h
  case compWriteP1 => exact accept_wireTx_mem hs hc hsent h rfl rfl (by decide) rfl
  case readCnt => exact accept_wireTx_mem hs hc hsent h rfl rfl (by decide) rfl
  case readSig => exact accept_wireTx_mem hs hc hsent h rfl rfl (by decide) rfl
  case fastRead => exact execFastRead_wireTx_mem hs hc hsent hle h
  case write => exact accept_wireTx_mem hs hc hsent h rfl rfl (by decide) rfl
  case pwdAuth => exact accept_wireTx_mem hs hc hsent h rfl rfl (by decide) rfl
  case compWriteP2 => exact execCompWriteP2_wireTx_mem hs hsent

end Sys2Proof.Machine
end

section
/-! A zero-bit receive at every position a command waits at (R120, R126, R158). -/

namespace Sys2Proof.Machine

open Sys2Proof.Claims

variable {s : State}

/-- PWD_AUTH ended by a code other than ACK, where there is no authentication to drop (R205). -/
theorem resumePwdAuth_of_ne_ack {c : AckCode} {p : Option (List Byte)} (hc : c ≠ .ack)
    (hauth : s.session ≠ .authenticated) : resumePwdAuth c p s = .next (s.complete (.code c) []) := by
  simp [resumePwdAuth, hc, hauth]

/-- Whichever command waits, a code other than ACK is its result, and it ends: no frame is put into the TX buffer, no
probe is made, and no payload is handed on (R126). -/
theorem resume_of_ne_ack {c : AckCode} {p : Option (List Byte)} (hc : c ≠ .ack) (hauth : s.session ≠ .authenticated)
    (hidle : s.position ≠ .idle) (hphase2 : s.position ≠ .compPhase2) :
    resume c p s = .next (s.complete (.code c) []) := by
  cases hp : s.position <;> simp only [resume, hp]
  case idle => exact absurd hp hidle
  case compPhase2 => exact absurd hp hphase2
  case finishAck => rfl
  case pwdAuth => exact resumePwdAuth_of_ne_ack hc hauth
  case finish | compPhase1 | anticoll | select | procedure | readSettings | writeSettings => exact if_neg hc

/-- Settles O41: the receive leaves Disconnected and NAK-timeout, with which `resume_of_ne_ack` ends the command. -/
theorem timeoutDisconnects : Obligations.TimeoutDisconnects := by
  rintro s w ⟨hawait, hidle, hphase2⟩
  calc exec .timeout s
      = resume .nakTimeout none (s.disarm.setSession .disconnected) := respond_of hawait
    _ = .next ((s.disarm.setSession .disconnected).complete (.code .nakTimeout) []) :=
        resume_of_ne_ack nofun nofun hidle hphase2
    _ = .next (ended { s with session := .disconnected } (.code .nakTimeout) []) := rfl

end Sys2Proof.Machine
end

section
/-! The answers to phase 1 of COMP_WRITE told apart (R120, R189, R194, R196): the 4-bit ACK, and every other response, whose
code is never ACK on an acknowledgement-only receive. -/

namespace Sys2Proof.Machine

open Sys2Proof.Claims

variable {s : State} {r : Response} {d : Bytes16}

theorem noiseCode_ne_ack (n : NoiseCode) : noiseCode n ≠ .ack := by
  cases n <;> exact nofun

/-- R120: only the 4-bit ACK acknowledges; a full-byte answer is noise there, whatever its bytes are. -/
theorem rxFrame_ackOnly_ne_ack {a : Await} (ha : a.kind = .ackOnly) (hr : r ≠ .short .ack) :
    (rxFrame s a r).code ≠ .ack := by
  cases r with
  | timeout => exact nofun
  | short c => exact fun hc => hr (congrArg Response.short hc)
  | full b ok => simpa [rxFrame, ha] using noiseCode_ne_ack s.params.noise

@[simp] theorem rxFrame_state_position (a : Await) : (rxFrame s a r).state.position = s.position := by
  rcases rxFrame_state s a r with he | ⟨_, he, _⟩ <;> simp [he]

@[simp] theorem rxFrame_state_events (a : Await) : (rxFrame s a r).state.events = s.events := by
  rcases rxFrame_state s a r with he | ⟨_, he, _⟩ <;> simp [he]

/-- A 4-bit NAK row brings its code, which is not ACK (R94). -/
theorem exec_nakOf {i : Instr} {c : AckCode} (hi : nakOf i = some c) :
    c ≠ .ack ∧ ∀ s, exec i s = respond (.short c) s := by
  cases i <;> cases hi <;> exact ⟨nofun, fun _ => rfl⟩

/-- A response row other than ACK brings an answer other than the 4-bit ACK. -/
theorem exec_eq_respond_of_ne_ack {i : Instr} (hi : isResponse i = true) (hack : i ≠ .ack) :
    ∃ r, r ≠ .short .ack ∧ ∀ s, exec i s = respond r s := by
  cases i
  case ack => exact absurd rfl hack
  case payload b ok => exact ⟨.full b ok, nofun, fun _ => rfl⟩
  case timeout => exact ⟨.timeout, nofun, fun _ => rfl⟩
  case nakArgument | nakCrc | nakAuthOverflow | nakWriteError | nakTimeout | nakDisconnected =>
    refine ⟨.short _, ?_, fun _ => rfl⟩
    exact nofun
  all_goals cases hi

/-- Phase 1 answered by anything but the 4-bit ACK ends the command with the code decoded from it (R194, R196). -/
theorem respond_compPhase1_of_ne_ack (hawait : s.await = some ⟨4, false, .ackOnly⟩) (hpos : s.position = .compPhase1 d)
    (hr : r ≠ .short .ack) :
    respond r s = .next ((rxFrame s.disarm ⟨4, false, .ackOnly⟩ r).state.complete
      (.code (rxFrame s.disarm ⟨4, false, .ackOnly⟩ r).code) []) := by
  have hwaits : (rxFrame s.disarm ⟨4, false, .ackOnly⟩ r).state.position = .compPhase1 d :=
    (rxFrame_state_position _).trans hpos
  rw [respond_of hawait, resume, hwaits]
  exact if_neg (rxFrame_ackOnly_ne_ack rfl hr)

/-- Phase 1 answered by the 4-bit ACK makes the data frame the next one to send (R194). -/
theorem respond_compPhase1_ack {a : Await} (hawait : s.await = some a) (hpos : s.position = .compPhase1 d) :
    respond (.short .ack) s = .next ((s.disarm.goto .compPhase2).load (Frame.ofBytes d.toList)) := by
  have hwaits : (rxFrame s.disarm a (.short .ack)).state.position = .compPhase1 d := hpos
  rw [respond_of hawait, resume, hwaits]
  rfl

/-- Settles O50: the ACK row is the 4-bit ACK, every other response row is an answer that ends the command. -/
theorem phaseTwoOnlyOnAck : Obligations.PhaseTwoOnlyOnAck := by
  intro s d hawait hpos
  refine ⟨respond_compPhase1_ack hawait hpos, fun i t hi hack h => ?_, fun i c hi => ?_⟩
  · obtain ⟨r, hr, hexec⟩ := exec_eq_respond_of_ne_ack hi hack
    rw [hexec, respond_compPhase1_of_ne_ack hawait hpos hr] at h
    cases h
    refine ⟨rfl, rfl, fun hresult => rxFrame_ackOnly_ne_ack rfl hr (Result.code.inj hresult), _,
      congrArg (_ :: ·) (rxFrame_state_events _)⟩
  · obtain ⟨hc, hexec⟩ := exec_nakOf hi
    exact (hexec s).trans (respond_compPhase1_of_ne_ack hawait hpos (mt Response.short.inj hc))

end Sys2Proof.Machine
end

section
/-! A session that has left the link (R158, R249): nothing but REQUEST, WAKEUP, DESTROY and ATTACH takes it out of Disconnected,
and the gate ends every gated command there (R124). -/

namespace Sys2Proof.Machine

open Sys2Proof.Claims

variable {s t : State} {i : Instr}

theorem State.connected_of_disconnected (hx : s.session = .disconnected) : s.connected = false := by
  simp [State.connected, hx, Session.isConnected]

/-- Every gated command is a body behind the gate, and a free engine is one of the positions at which it is accepted. -/
theorem exec_eq_accept_of_gated (hi : gated i = true) :
    ∃ own body, (∀ s, exec i s = accept true own s body) ∧ own .idle = true := by
  cases i
  case halt | getVersion | read | fastRead | write | compWriteP1 | readCnt | pwdAuth | readSig | readSettings
      | writeSettings => exact ⟨_, _, fun _ => rfl, rfl⟩
  all_goals cases hi

/-- The gate ends a gated command on a session that is not connected (R124). -/
theorem State.accepting.exec_gated (hs : s.accepting) (hc : s.connected = false) (hi : gated i = true) :
    exec i s = .next (s.complete (.code .nakDisconnected) []) := by
  obtain ⟨hfault, hattached, hidle, hawait⟩ := hs
  obtain ⟨own, body, hexec, hown⟩ := exec_eq_accept_of_gated hi
  exact (hexec s).trans (accept_gate hfault hattached (by simp [State.ready, hidle, hawait, hown]) hc)

/-- A command the gate does not stop runs its body on a free session, connected or not. -/
theorem State.accepting.accept_ungated_eq {own : Position → Bool} (hs : s.accepting) (hown : own .idle = true)
    (body : State → Out) : accept false own s body = body s := by
  obtain ⟨hfault, hattached, hidle, hawait⟩ := hs
  exact accept_of hfault hattached (by simp [State.ready, hidle, hawait, hown]) nofun

/-- Sending a frame, whole or not, leaves STATE as it is. -/
theorem txFrame_andThen_next_session {b : List Byte} {n : Nat} {crc : Bool}
    (h : (txFrame s b n crc).andThen .next = .next t) : t.session = s.session := by
  rcases txFrame_cases s b n crc with ⟨_, hr⟩ | ⟨_, _, _, hr⟩ | ⟨_, _, _, hr⟩ | ⟨_, _, _, hr⟩ <;>
    rw [hr] at h <;> cases h <;> rfl

/-- A select frame outside CONNECT writes no STATE (R146, R148). -/
theorem State.accepting.sendSelect_session {op nvb : Byte} {u : List Byte} (hs : s.accepting)
    (h : sendSelect op nvb u s = .next t) : t.session = s.session := by
  have ⟨_, _, hidle, _⟩ := hs
  rw [sendSelect, hs.accept_ungated_eq rfl, hidle] at h
  exact txFrame_andThen_next_session h

/-- CONNECT anywhere but in Requested is SEQ_VIOLATION (R150, D10). -/
theorem State.accepting.execConnect_of_ne_requested (hs : s.accepting) (hx : s.session ≠ .requested) :
    execConnect s = .next (s.raised .seqViolation) := by
  rw [execConnect, hs.accept_ungated_eq rfl, if_neg hx, raise_eq]

theorem State.accepting.execDisconnect_eq (hs : s.accepting) :
    execDisconnect s = .next ((s.setSession .disconnected).complete (.code .ack) []) := by
  rw [execDisconnect, hs.accept_ungated_eq rfl, finishAck_eq]

/-- The engine takes no response that it did not ask for (R52, R256). -/
theorem respond_of_await_none (r : Response) (hawait : s.await = none) :
    respond r s = .refused .noReceiveOutstanding := by
  rw [respond, hawait]

/-- The data frame of COMP_WRITE is due only after an acknowledged phase 1 (R194). -/
theorem State.accepting.execCompWriteP2_eq (hs : s.accepting) (d : Bytes16) :
    execCompWriteP2 d s = .refused .noPhaseOne := by
  obtain ⟨hfault, _, hidle, _⟩ := hs
  simp [execCompWriteP2, hfault, hidle]

/-- R249: on a free session the four commands named are the only ones that leave Disconnected. -/
theorem State.accepting.exec_keeps_disconnected (hs : s.accepting) (hx : s.session = .disconnected)
    (h : exec i s = .next t) (hrequest : i ≠ .request) (hwakeup : i ≠ .wakeup) (hdestroy : i ≠ .destroy)
    (hattach : ∀ v tr m, i ≠ .attach v tr m) : t.session = .disconnected := by
  have ⟨_, _, _, hawait⟩ := hs
  have hc := State.connected_of_disconnected hx
  cases i
  case request => exact absurd rfl hrequest
  case wakeup => exact absurd rfl hwakeup
  case destroy => exact absurd rfl hdestroy
  case attach => exact absurd rfl (hattach _ _ _)
  case halt | getVersion | read | fastRead | write | compWriteP1 | readCnt | pwdAuth | readSig | readSettings
      | writeSettings =>
    cases (hs.exec_gated hc rfl).symm.trans h
    exact hx
  case compWriteP2 d => cases (hs.execCompWriteP2_eq d).symm.trans h
  case selectL1 | selectL2 => exact (hs.sendSelect_session h).trans hx
  case ack | nakArgument | nakCrc | nakAuthOverflow | nakWriteError | nakTimeout | nakDisconnected | payload | timeout =>
    cases (respond_of_await_none _ hawait).symm.trans h
  case connect =>
    cases (hs.execConnect_of_ne_requested (by simp [hx])).symm.trans h
    exact hx
  case disconnect =>
    cases hs.execDisconnect_eq.symm.trans h
    rfl

/-- Settles O42: the link failure is `timeoutDisconnects`, and what a session in Disconnected does afterwards is
`exec_keeps_disconnected` and the gate. -/
theorem linkFailureNeedsReconnect : Obligations.LinkFailureNeedsReconnect :=
  ⟨fun s w hlistens => ⟨_, timeoutDisconnects s w hlistens, rfl, rfl, rfl⟩,
    fun _ _ _ hs hx h => hs.exec_keeps_disconnected hx h,
    fun _ _ hi hs hx => ⟨_, hs.exec_gated (State.connected_of_disconnected hx) hi, rfl, rfl⟩⟩

end Sys2Proof.Machine
end

section
/-! The default settings layout (R217): where each field of a record is packed, what unpacking reads, and that the two agree for
every codec (R216). -/

namespace Sys2Proof.Machine

/-- D32: the mirror mode's number names it. -/
@[simp] theorem mirrorOfBits_mirrorBits (m : MirrorMode) : mirrorOfBits (mirrorBits m) = m := by
  cases m <;> rfl

/-- R217, byte 0: each field is read back from the bits it is packed at, and the reserved bits are 0. -/
theorem packMirror_fields (r : Settings) :
    (packMirror r).extractLsb' 6 2 = mirrorBits r.mirrorMode ∧ (packMirror r).extractLsb' 4 2 = r.mirrorByte ∧
      (packMirror r).getLsbD 3 = false ∧ (packMirror r).getLsbD 2 = r.strongMod ∧
      (packMirror r).extractLsb' 0 2 = 0 := by
  unfold packMirror
  generalize mirrorBits r.mirrorMode = mode, r.mirrorByte = byte, r.strongMod = strong
  revert mode byte strong
  decide

/-- R217, byte 4: each field is read back from the bits it is packed at, and the reserved bit is 0. -/
theorem packAccess_fields (r : Settings) :
    (packAccess r).getLsbD 7 = r.pwdLock ∧ (packAccess r).getLsbD 6 = r.cfgLock ∧ (packAccess r).getLsbD 5 = false ∧
      (packAccess r).getLsbD 4 = r.cntEn ∧ (packAccess r).getLsbD 3 = r.cntProt ∧
      (packAccess r).extractLsb' 0 3 = r.authLim := by
  unfold packAccess
  generalize r.pwdLock = pwdLock, r.cfgLock = cfgLock, r.cntEn = cntEn, r.cntProt = cntProt, r.authLim = authLim
  revert pwdLock cfgLock cntEn cntProt authLim
  decide

/-- Settles O11: each field is read at the bits it is packed at. -/
theorem standardCodecRoundTrip : Obligations.StandardCodecRoundTrip := by
  intro r
  obtain ⟨hmode, hbyte, _, hstrong, _⟩ := packMirror_fields r
  obtain ⟨hpwdLock, hcfgLock, _, hcntEn, hcntProt, hauthLim⟩ := packAccess_fields r
  simp only [unpackStandard, packStandard, hmode, mirrorOfBits_mirrorBits, hbyte, hstrong, hpwdLock, hcfgLock, hcntEn,
    hcntProt, hauthLim]

/-- R216: page `i` of a packed record is its bytes 4i to 4i+3. -/
theorem pageOf_toList (b : Bytes16) {i : Nat} (hi : i ≤ 3) : (pageOf b i).toList = (b.toList.drop (4 * i)).take 4 := by
  interval_cases i <;> rfl

/-- The law of R216, which a custom codec carries with it and the default one has by O11. -/
theorem unpack_pack (c : SettingsCodec) (r : Settings) : unpack c (pack c r) = r := by
  cases c with
  | standard => exact standardCodecRoundTrip r
  | custom k =>
    simp only [unpack, pack]
    cases Config.customCodec k with
    | none => exact standardCodecRoundTrip r
    | some codec => exact codec.unpack_pack r

/-- Settles O12. -/
theorem everyCodecRoundTrips : Obligations.EveryCodecRoundTrips := fun c r =>
  ⟨unpack_pack c r, fun _ hi => pageOf_toList (pack c r) hi⟩

/-- A bit that a mask keeps is the same in two bytes that agree under the mask. -/
theorem getLsbD_eq_of_and_eq {b c mask : Byte} {i : Nat} (h : b &&& mask = c &&& mask) (hi : mask.getLsbD i = true) :
    b.getLsbD i = c.getLsbD i := by
  simpa [hi] using congrArg (BitVec.getLsbD · i) h

/-- A field that a mask keeps is the same in two bytes that agree under the mask. -/
theorem extractLsb'_eq_of_and_eq {b c mask : Byte} {lo len : Nat} (h : b &&& mask = c &&& mask)
    (hmask : ∀ i < len, mask.getLsbD (lo + i) = true) : b.extractLsb' lo len = c.extractLsb' lo len :=
  BitVec.eq_of_getLsbD_eq fun i hi => by simp [hi, getLsbD_eq_of_and_eq h (hmask i hi)]

/-- R217: unpacking reads no reserved bit and no reserved byte. -/
theorem unpackStandard_congr {b c : Bytes16} (hmirror : b.p0.b0 &&& 0xF4 = c.p0.b0 &&& 0xF4) (hpage : b.p0.b2 = c.p0.b2)
    (hauth0 : b.p0.b3 = c.p0.b3) (haccess : b.p1.b0 &&& 0xDF = c.p1.b0 &&& 0xDF) (hpwd : b.p2 = c.p2)
    (hpack0 : b.p3.b0 = c.p3.b0) (hpack1 : b.p3.b1 = c.p3.b1) : unpackStandard b = unpackStandard c := by
  simp only [unpackStandard, Settings.mk.injEq, Bytes2.mk.injEq]
  exact ⟨congrArg mirrorOfBits (extractLsb'_eq_of_and_eq hmirror (by decide)),
    extractLsb'_eq_of_and_eq hmirror (by decide), hpage, getLsbD_eq_of_and_eq hmirror (by decide), hauth0,
    getLsbD_eq_of_and_eq haccess (by decide), getLsbD_eq_of_and_eq haccess (by decide),
    getLsbD_eq_of_and_eq haccess (by decide), getLsbD_eq_of_and_eq haccess (by decide),
    extractLsb'_eq_of_and_eq haccess (by decide), hpwd, hpack0, hpack1⟩

/-- Settles O13: the packed bits by `packMirror_fields` and `packAccess_fields`, the unpacked ones by
`unpackStandard_congr`. -/
theorem standardCodecLayout : Obligations.StandardCodecLayout := by
  refine ⟨⟨rfl, rfl, rfl, rfl⟩, fun r => ?packed, fun b c => unpackStandard_congr⟩
  obtain ⟨hmode, hbyte, hreserved3, hstrong, hreserved⟩ := packMirror_fields r
  obtain ⟨hpwdLock, hcfgLock, hreserved5, hcntEn, hcntProt, hauthLim⟩ := packAccess_fields r
  exact ⟨hmode, hbyte, hreserved3, hstrong, hreserved, rfl, rfl, rfl, hpwdLock, hcfgLock, hreserved5, hcntEn, hcntProt,
    hauthLim, rfl, rfl, rfl, rfl, rfl⟩

end Sys2Proof.Machine
end

section
/-! The decoder undoes the encoder (R80 to R94, log 7), and reads a 4-bit answer by its value (R39, R62). -/

namespace Sys2Proof.Machine

/-- The capability byte of ATTACH holds five flags, and three zero bits above them (log 7). -/
theorem encodeCaps_fields (t : Transport) (m : CrcMode) :
    (encodeCaps t m).extractLsb' 5 3 = 0#3 ∧ (encodeCaps t m).getLsbD 0 = t.transmit ∧
      (encodeCaps t m).getLsbD 1 = t.receive ∧ (encodeCaps t m).getLsbD 2 = t.transmitCrc ∧
      (encodeCaps t m).getLsbD 3 = t.receiveCrc ∧ (encodeCaps t m).getLsbD 4 = decide (m = .hw) := by
  unfold encodeCaps
  generalize decide (m = .hw) = hw, t.transmit = transmit, t.receive = receive, t.transmitCrc = transmitCrc,
    t.receiveCrc = receiveCrc
  revert hw transmit receive transmitCrc receiveCrc
  decide

/-- R61: a 16-bit value is its high byte above its low byte. -/
theorem word16_lo8_hi8 (w : Word16) : word16 (lo8 w) (hi8 w) = w :=
  BitVec.extractLsb'_append_extractLsb' (w := 8) (len := 8)

/-- The three bytes that name a CRC function name it (log 7). -/
theorem decodeCrcFn_encodeCrcFn (f : Option CrcFn) :
    ∃ kind lo hi, encodeCrcFn f = [kind, lo, hi] ∧ decodeCrcFn kind lo hi = .ok f := by
  match f with
  | none => exact ⟨_, _, _, rfl, rfl⟩
  | some .crcA => exact ⟨_, _, _, rfl, rfl⟩
  | some (.constant w) =>
    exact ⟨_, _, _, rfl, congrArg (fun w => Except.ok (some (CrcFn.constant w))) (word16_lo8_hi8 w)⟩
  | some (.injected k) =>
    exact ⟨_, _, _, rfl, congrArg (fun k => Except.ok (some (CrcFn.injected k))) (word16_lo8_hi8 k)⟩

theorem decode_encode_attach (v : Byte) (t : Transport) (m : CrcMode) :
    decode (encode (.attach v t m)) = .ok (.attach v t m) := by
  obtain ⟨kind, lo, hi, hbytes, hcrc⟩ := decodeCrcFn_encodeCrcFn t.crc16
  obtain ⟨hzero, htransmit, hreceive, htransmitCrc, hreceiveCrc, hmode⟩ := encodeCaps_fields t m
  have hword : decode (encode (.attach v t m)) = decodeAttach v (encodeCaps t m) kind lo hi := by
    simp only [encode, hbytes]
    rfl
  have hm : (if decide (m = .hw) = true then CrcMode.hw else .sw) = m := by cases m <;> rfl
  simp only [hword, decodeAttach, hzero, hcrc, htransmit, hreceive, htransmitCrc, hreceiveCrc, hmode, hm, if_true]

theorem decode_encode_writeSettings (r : Settings) : decode (encode (.writeSettings r)) = .ok (.writeSettings r) :=
  congrArg (fun r => Except.ok (Instr.writeSettings r)) (standardCodecRoundTrip r)

/-- A select frame with at most five UID bytes (R92). -/
theorem decodeSelect_ofBytes (op nvb : Byte) {u : List Byte} (hu : u.length ≤ maxUidPart) (mk : Byte → List Byte → Instr) :
    decodeSelect (Frame.ofBytes ([op, nvb] ++ u)) (nvb :: u) mk = .ok (mk nvb u) := by
  have hbits : (Frame.ofBytes ([op, nvb] ++ u)).bits = 16 + 8 * u.length := by
    simp only [Frame.ofBytes, List.length_append, List.length_cons, List.length_nil]
    omega
  simp only [decodeSelect, exactly, hu, hbits, if_true]

/-- A select frame is shorter than the data frame of COMP_WRITE, so its opcode selects it (R80, R102). -/
theorem selectBits_ne_dataBits (op nvb : Byte) {u : List Byte} (hu : u.length ≤ maxUidPart) :
    (Frame.ofBytes ([op, nvb] ++ u)).bits ≠ 128 := by
  simp only [Frame.ofBytes, List.length_append, List.length_cons, List.length_nil]
  simp only [maxUidPart] at hu
  omega

theorem decode_encode_selectL1 (nvb : Byte) {u : List Byte} (hu : u.length ≤ maxUidPart) :
    decode (encode (.selectL1 nvb u)) = .ok (.selectL1 nvb u) :=
  (if_neg (selectBits_ne_dataBits _ nvb hu)).trans (decodeSelect_ofBytes _ nvb hu _)

theorem decode_encode_selectL2 (nvb : Byte) {u : List Byte} (hu : u.length ≤ maxUidPart) :
    decode (encode (.selectL2 nvb u)) = .ok (.selectL2 nvb u) :=
  (if_neg (selectBits_ne_dataBits _ nvb hu)).trans (decodeSelect_ofBytes _ nvb hu _)

/-- R93, R120: an answer of at least one whole byte is a payload of exactly those bytes. -/
theorem decodeRx_bytes {b : List Byte} (hb : b ≠ []) (ok : Bool) : decodeRx ⟨8 * b.length, b, ok⟩ = .ok (.payload b ok) := by
  have hpos : 0 < b.length := List.length_pos_iff.mpr hb
  have hne : 8 * b.length ≠ 4 := by omega
  simp [decodeRx, hb, hne]

/-- Settles O1: the frames of fixed form by evaluation, the others by their lemma. -/
theorem decodeEncodeAgree : Obligations.DecodeEncodeAgree := by
  intro i hi
  cases i
  case selectL1 nvb u => exact decode_encode_selectL1 nvb (of_decide_eq_true hi)
  case selectL2 nvb u => exact decode_encode_selectL2 nvb (of_decide_eq_true hi)
  case payload b ok => exact decodeRx_bytes (List.length_pos_iff.mp (of_decide_eq_true hi)) ok
  case attach v t m => exact decode_encode_attach v t m
  case writeSettings r => exact decode_encode_writeSettings r
  all_goals rfl

/-- Settles O2. -/
theorem writtenWordsDecode : Obligations.WrittenWordsDecode := ⟨rfl, rfl, rfl, rfl, rfl, rfl, rfl, rfl⟩

theorem codeBits_injective : ∀ c d : AckCode, codeBits c = codeBits d → c = d := by
  intro c d h
  cases c <;> cases d <;> cases h <;> rfl

/-- Settles O4: bits 7:4 of the byte are cut off before the value is looked up (R62). -/
theorem nibblesNameSevenCodes : Obligations.NibblesNameSevenCodes :=
  ⟨fun _ _ _ => rfl, rfl, rfl, rfl, rfl, rfl, rfl, rfl, codeBits_injective⟩

end Sys2Proof.Machine
end

section
/-! CRC_A tells two payloads apart that differ in one byte (R112): each step of its bit procedure is injective. -/

namespace Sys2Proof.Machine

/-- Settles O8: the appended string is the one that passes. -/
theorem crcRoundTrip : Obligations.CrcRoundTrip := fun _ _ => crcCheck_eq_some_iff.mpr rfl

/-- R112: the polynomial is put in at the top bit, which the shift has emptied, so the top bit tells the bit that was
shifted out. -/
theorem crcAStep_top (c : Word16) : (crcAStep c).getLsbD 15 = c.getLsbD 0 := by
  unfold crcAStep
  cases h : c.getLsbD 0 <;> simp

theorem crcAStep_injective : Function.Injective crcAStep := by
  intro c d h
  have hlow : c.getLsbD 0 = d.getLsbD 0 := by rw [← crcAStep_top c, h, crcAStep_top d]
  have hshift : c >>> 1 = d >>> 1 := by
    unfold crcAStep at h
    rw [hlow] at h
    split at h
    · exact (BitVec.xor_left_inj _).mp h
    · exact h
  refine BitVec.eq_of_getLsbD_eq fun i _ => ?_
  cases i with
  | zero => exact hlow
  | succ i => simpa [Nat.add_comm] using congrArg (BitVec.getLsbD · i) hshift

/-- An outer step is eight inner ones after the byte is put in, each of them injective. -/
theorem crcAByte_injective_left (b : Byte) : Function.Injective (crcAByte · b) := fun _ _ h =>
  (BitVec.xor_left_inj _).mp (crcAStep_injective.iterate 8 h)

theorem zeroExtend_injective : Function.Injective (BitVec.zeroExtend 16 : Byte → Word16) := fun x y h => by
  simpa using congrArg (BitVec.setWidth 8) h

theorem crcAByte_injective_right (c : Word16) : Function.Injective (crcAByte c) := fun _ _ h =>
  zeroExtend_injective ((BitVec.xor_right_inj _).mp (crcAStep_injective.iterate 8 h))

/-- What follows in the payload keeps two different intermediate values apart. -/
theorem foldl_crcAByte_injective (b : List Byte) : Function.Injective fun c => b.foldl crcAByte c := by
  induction b with
  | nil => exact Function.injective_id
  | cons x b ih => exact ih.comp (crcAByte_injective_left x)

/-- Two payloads that differ in one byte have different CRCs. -/
theorem crcA_injective_at (pre post : List Byte) : Function.Injective fun x => crcA (pre ++ x :: post) := by
  intro x y h
  simp only [crcA, List.foldl_append, List.foldl_cons] at h
  exact crcAByte_injective_right _ (foldl_crcAByte_injective post h)

/-- The two trailer bytes tell the value (R61). -/
theorem lo8_hi8_injective {v w : Word16} (hlo : lo8 v = lo8 w) (hhi : hi8 v = hi8 w) : v = w := by
  rw [← word16_lo8_hi8 v, hlo, hhi, word16_lo8_hi8]

/-- X4: a payload with one byte changed does not go with the trailer of the payload before the change. -/
theorem ne_crcAppend_crcA_of_ne {pre post p : List Byte} {x y : Byte} (hxy : x ≠ y) :
    pre ++ y :: post ++ [lo8 (crcA (pre ++ x :: post)), hi8 (crcA (pre ++ x :: post))] ≠ crcAppend crcA p := by
  intro h
  obtain ⟨rfl, htrailer⟩ := List.append_inj' h rfl
  simp only [crcTrailer, List.cons.injEq, and_true] at htrailer
  exact hxy (crcA_injective_at pre post (lo8_hi8_injective htrailer.1 htrailer.2))

end Sys2Proof.Machine
end

section
/-! What a response brings to the command that waits (R118, R120), and the end of a command by a code other than ACK or by a
fault (R126, R250). -/

namespace Sys2Proof.Machine

open Sys2Proof.Claims

variable {s : State} {w : Await} {b r : List Byte} {ok : Bool} {c : AckCode} {p : Option (List Byte)} {i : Instr}

/-- On a session without a fault the fault raised is the one recorded (R250). -/
theorem State.raised_of_sound (hfault : s.fault = none) (k : FaultKind) : s.raised k = faulted k s := by
  simp [State.raised, faulted, hfault]

@[simp] theorem State.setSession_self (s : State) : s.setSession s.session = s := rfl

/-- The engine's own check delivers the payload `b` of the string `r`, or the transport's check has (R54, R120). -/
def delivers (s : State) (r : List Byte) (ok : Bool) (b : List Byte) : Prop :=
  (s.crcMode = .sw ∧ r = b ++ [lo8 (s.crc16 b), hi8 (s.crc16 b)]) ∨ (s.crcMode = .hw ∧ r = b ∧ ok = true)

/-- The string `r` fails the check of the session's mode (R122). -/
def rejects (s : State) (r : List Byte) (ok : Bool) : Prop :=
  (s.crcMode = .sw → ¬ crcPasses s r) ∧ (s.crcMode = .hw → ok = false)

theorem delivers_or_rejects (s : State) (r : List Byte) (ok : Bool) : (∃ b, delivers s r ok b) ∨ rejects s r ok := by
  cases hmode : s.crcMode with
  | sw =>
    by_cases hpass : crcPasses s r
    · obtain ⟨b, hr⟩ := hpass
      exact .inl ⟨b, .inl ⟨hmode, hr⟩⟩
    · exact .inr ⟨fun _ => hpass, by simp [hmode]⟩
  | hw =>
    cases hok : ok
    · exact .inr ⟨by simp [hmode], fun _ => rfl⟩
    · exact .inl ⟨r, .inr ⟨hmode, rfl, rfl⟩⟩

theorem crcCheck_of_not_passes (hr : ¬ crcPasses s r) : crcCheck s.crc16 r = none :=
  Option.eq_none_iff_forall_ne_some.mpr fun b hb => hr ⟨b, crcCheck_eq_some_iff.mp hb⟩

theorem respond_short (hawait : s.await = some w) : respond (.short c) s = resume c none s.disarm := respond_of hawait

/-- R120: whole bytes on an acknowledgement-only receive are noise. -/
theorem respond_noise (hawait : s.await = some w) (hkind : w.kind = .ackOnly) :
    respond (.full b ok) s = resume (noiseCode s.params.noise) none s.disarm := by
  simp [respond_of hawait, rxFrame, hkind]

/-- A payload on a receive without CRC is accepted as it is. -/
theorem respond_plain (hawait : s.await = some w) (hkind : w.kind = .payload) (hcrc : w.crc = false) :
    respond (.full b ok) s = resume .ack (some b) s.disarm := by
  simp [respond_of hawait, rxFrame, hkind, hcrc]

theorem respond_delivers (hawait : s.await = some w) (hkind : w.kind = .payload) (hcrc : w.crc = true)
    (hr : delivers s r ok b) : respond (.full r ok) s = resume .ack (some b) s.disarm := by
  rcases hr with ⟨hmode, rfl⟩ | ⟨hmode, rfl, rfl⟩
  · have hcheck : crcCheck s.crc16 (b ++ [lo8 (s.crc16 b), hi8 (s.crc16 b)]) = some b := crcRoundTrip _ b
    simp [respond_of hawait, rxFrame, hkind, hcrc, hmode, hcheck]
  · simp [respond_of hawait, rxFrame, hkind, hcrc, hmode]

theorem respond_rejects (hawait : s.await = some w) (hkind : w.kind = .payload) (hcrc : w.crc = true)
    (hr : rejects s r ok) : respond (.full r ok) s = resume .nakCrc none s.disarm := by
  obtain ⟨hsw, hhw⟩ := hr
  cases hmode : s.crcMode with
  | sw => simp [respond_of hawait, rxFrame, hkind, hcrc, hmode, crcCheck_of_not_passes (hsw hmode)]
  | hw => simp [respond_of hawait, rxFrame, hkind, hcrc, hmode, hhw hmode]

/-- STATE after a command ended by a code other than ACK: only a failed PWD_AUTH drops Authenticated (R205, D12). -/
def State.sessionAfterNak (s : State) : Session :=
  if s.position = .pwdAuth ∧ s.session = .authenticated then .selected else s.session

theorem State.sessionAfterNak_of_ne (hp : s.position ≠ .pwdAuth) : s.sessionAfterNak = s.session :=
  if_neg fun h => hp h.1

theorem State.sessionAfterNak_cases (s : State) : s.sessionAfterNak = s.session ∨
    (s.position = .pwdAuth ∧ s.session = .authenticated ∧ s.sessionAfterNak = .selected) := by
  unfold State.sessionAfterNak
  split
  case isTrue h => exact .inr ⟨h.1, h.2, rfl⟩
  case isFalse => exact .inl rfl

/-- PWD_AUTH fails on everything but the two expected bytes with the code ACK (R205). -/
theorem resumePwdAuth_fails (h : ¬(c = .ack ∧ p = some s.settings.pack.toList)) (hpos : s.position = .pwdAuth) :
    resumePwdAuth c p s = .next ((s.setSession s.sessionAfterNak).complete
      (if c = .ack then .authMismatch else .code c) []) := by
  rw [resumePwdAuth, if_neg h, State.sessionAfterNak]
  by_cases hauth : s.session = .authenticated <;> simp [hauth, hpos]

/-- R126: whichever command waits, a code other than ACK is its result, and it ends. -/
theorem resume_nak (hc : c ≠ .ack) (hidle : s.position ≠ .idle) (hphase2 : s.position ≠ .compPhase2) :
    resume c p s = .next ((s.setSession s.sessionAfterNak).complete (.code c) []) := by
  by_cases hpos : s.position = .pwdAuth
  · simpa [resume, hpos, hc] using resumePwdAuth_fails (p := p) (fun h => hc h.1) hpos
  · rw [State.sessionAfterNak_of_ne hpos, State.setSession_self]
    cases hp : s.position <;> simp only [resume, hp]
    case idle => exact absurd hp hidle
    case compPhase2 => exact absurd hp hphase2
    case pwdAuth => exact absurd hp hpos
    case finishAck => rfl
    case finish | compPhase1 | anticoll | select | procedure | readSettings | writeSettings => exact if_neg hc

section Listening

variable (hlistens : listens s w)
include hlistens

/-- A 4-bit NAK is the result of the command that waits. -/
theorem exec_nak (hi : nakOf i = some c) :
    exec i s = .next (ended { s with session := s.sessionAfterNak } (.code c) []) := by
  obtain ⟨hawait, hidle, hphase2⟩ := hlistens
  obtain ⟨hc, hexec⟩ := exec_nakOf hi
  exact (hexec s).trans ((respond_short hawait).trans (resume_nak hc hidle hphase2))

/-- R122: a payload that fails its check ends the command with NAK-CRC and is dropped. -/
theorem exec_payload_rejects (hkind : w.kind = .payload) (hcrc : w.crc = true) (hr : rejects s r ok) :
    exec (.payload r ok) s = .next (ended { s with session := s.sessionAfterNak } (.code .nakCrc) []) := by
  obtain ⟨hawait, hidle, hphase2⟩ := hlistens
  exact (respond_rejects hawait hkind hcrc hr).trans (resume_nak nofun hidle hphase2)

/-- R120: whole bytes on an acknowledgement-only receive end the command with NOISE_CODE. -/
theorem exec_payload_noise (hkind : w.kind = .ackOnly) : exec (.payload r ok) s
      = .next (ended { s with session := s.sessionAfterNak } (.code (noiseCode s.params.noise)) []) := by
  obtain ⟨hawait, hidle, hphase2⟩ := hlistens
  exact (respond_noise hawait hkind).trans (resume_nak (noiseCode_ne_ack _) hidle hphase2)

omit hlistens in
/-- Outside PWD_AUTH a command ended by its code leaves STATE as it is. -/
theorem ended_sessionAfterNak (hpos : s.position ≠ .pwdAuth) (res : Result) (d : List Byte) :
    ended { s with session := s.sessionAfterNak } res d = ended s res d := by
  rw [State.sessionAfterNak_of_ne hpos]

end Listening

/-- Settles O10: the payload is dropped by `exec_payload_rejects`, whichever command waits. -/
theorem failedPayloadNeverVisible : Obligations.FailedPayloadNeverVisible :=
  fun _ _ _ _ hlistens hkind hcrc hsw hhw =>
    ⟨_, exec_payload_rejects hlistens hkind hcrc ⟨hsw, hhw⟩, rfl, rfl, rfl, rfl, rfl, rfl, rfl⟩

/-- Settles O9: the changed string is no payload with its CRC, so it is dropped like any other. -/
theorem corruptedByteIsCaught : Obligations.CorruptedByteIsCaught := by
  intro s w pre post x y ok hlistens hkind hcrc hmode hfn hxy
  have hcrc16 : s.crc16 = crcA := by
    funext d
    simp [State.crc16, hfn, crcOf]
  have hrejects : rejects s
      (pre ++ y :: post ++ [lo8 (crcA (pre ++ x :: post)), hi8 (crcA (pre ++ x :: post))]) ok := by
    refine ⟨fun _ ⟨p, hp⟩ => ?_, by simp [hmode]⟩
    rw [hcrc16] at hp
    exact ne_crcAppend_crcA_of_ne hxy hp
  exact ⟨_, exec_payload_rejects hlistens hkind hcrc hrejects, rfl, rfl, rfl⟩

end Sys2Proof.Machine
end

section
/-! How the commands of one exchange end (R126, R142, R169, R189, R205). -/

namespace Sys2Proof.Machine

open Sys2Proof.Claims

variable {s : State} {w : Await} {b r : List Byte} {ok : Bool} {c : AckCode} {n : Nat} {i : Instr}

theorem listens_of (hawait : s.await = some w) {p : Position} (hpos : s.position = p) (hidle : p ≠ .idle)
    (hphase2 : p ≠ .compPhase2) : listens s w :=
  ⟨hawait, hpos ▸ hidle, hpos ▸ hphase2⟩

/-- `Finish` with a payload: its length is the expected one, or RX_LENGTH (R126, D17). -/
theorem resume_finish_some (hfault : s.fault = none) (hpos : s.position = .finish n) :
    resume .ack (some b) s.disarm
      = .next (if b.length = n then ended s (.code .ack) b else faulted .rxLength s) := by
  have hresume : resume .ack (some b) s.disarm = finish .ack (some b) n s.disarm := by simp [resume, hpos]
  rw [hresume]
  by_cases hlen : b.length = n
  · simp [finish, hlen]
    rfl
  · simp [finish, hlen, State.raised_of_sound (s := s.disarm) hfault]
    rfl

/-- `Finish` without a payload is RX_LENGTH (R126, D17). -/
theorem resume_finish_none (hfault : s.fault = none) (hpos : s.position = .finish n) :
    resume .ack none s.disarm = .next (faulted .rxLength s) := by
  have hresume : resume .ack none s.disarm = raise .rxLength s.disarm := by simp [resume, hpos, finish]
  rw [hresume, raise_eq, State.raised_of_sound (s := s.disarm) hfault]
  rfl

/-- Settles O33. -/
theorem plainReceiveEnds : Obligations.PlainReceiveEnds := by
  intro s w n hfault hawait hkind hcrc hpos
  have hlistens : listens s w := listens_of hawait hpos nofun nofun
  have hne : s.position ≠ .pwdAuth := hpos ▸ nofun
  refine ⟨fun b ok => ?payload, ?ack, fun i c hi => ?nak, timeoutDisconnects s w hlistens⟩
  case payload => exact (respond_plain hawait hkind hcrc).trans (resume_finish_some hfault hpos)
  case ack => exact (respond_short hawait).trans (resume_finish_none hfault hpos)
  case nak => exact ended_sessionAfterNak hne _ _ ▸ exec_nak hlistens hi

/-- Settles O45. -/
theorem payloadReceiveEnds : Obligations.PayloadReceiveEnds := by
  intro s w n hfault hawait hkind hcrc hpos
  have hlistens : listens s w := listens_of hawait hpos nofun nofun
  have hne : s.position ≠ .pwdAuth := hpos ▸ nofun
  have hpass : ∀ r ok b, delivers s r ok b → exec (.payload r ok) s
      = .next (if b.length = n then ended s (.code .ack) b else faulted .rxLength s) := fun r ok b hr =>
    (respond_delivers hawait hkind hcrc hr).trans (resume_finish_some hfault hpos)
  have hfail : ∀ r ok, rejects s r ok → exec (.payload r ok) s = .next (ended s (.code .nakCrc) []) := fun r ok hr =>
    ended_sessionAfterNak hne _ _ ▸ exec_payload_rejects hlistens hkind hcrc hr
  refine ⟨fun b ok hmode => hpass _ _ _ (.inl ⟨hmode, rfl⟩), fun r ok hmode hr => hfail _ _ ⟨fun _ => hr, ?_⟩,
    fun b hmode => hpass _ _ _ (.inr ⟨hmode, rfl, rfl⟩), fun b hmode => hfail _ _ ⟨?_, fun _ => rfl⟩, ?ack,
    fun i c hi => ?nak, timeoutDisconnects s w hlistens⟩
  · simp [hmode]
  · simp [hmode]
  case ack => exact (respond_short hawait).trans (resume_finish_none hfault hpos)
  case nak => exact ended_sessionAfterNak hne _ _ ▸ exec_nak hlistens hi

/-- Settles O49. -/
theorem ackReceiveEnds : Obligations.AckReceiveEnds := by
  intro s hawait hpos
  have hlistens : listens s ⟨4, false, .ackOnly⟩ := listens_of hawait hpos nofun nofun
  have hne : s.position ≠ .pwdAuth := hpos ▸ nofun
  refine ⟨?ack, fun i c hi => ?nak, fun b ok => ⟨_, noiseCode_ne_ack _, rfl, ?noise⟩, timeoutDisconnects s _ hlistens⟩
  case ack => exact (respond_short hawait).trans (by simp [resume, hpos]; rfl)
  case nak => exact ended_sessionAfterNak hne _ _ ▸ exec_nak hlistens hi
  case noise => exact ended_sessionAfterNak hne _ _ ▸ exec_payload_noise hlistens rfl

end Sys2Proof.Machine
end

section
/-! The password acknowledgement (R205): the two expected bytes with the code ACK, and everything else. -/

namespace Sys2Proof.Machine

open Sys2Proof.Claims

variable {s : State} {w : Await} {b r : List Byte} {ok : Bool} {c : AckCode} {p : Option (List Byte)} {i : Instr}

/-- After a failed PWD_AUTH no session is in Authenticated (R205, D12). -/
theorem State.sessionAfterNak_ne_authenticated (hpos : s.position = .pwdAuth) : s.sessionAfterNak ≠ .authenticated := by
  unfold State.sessionAfterNak
  split
  case isTrue => exact nofun
  case isFalse h => exact fun hauth => h ⟨hpos, hauth⟩

theorem resume_pwdAuth_succeeds (hpos : s.position = .pwdAuth) :
    resume .ack (some s.settings.pack.toList) s.disarm
      = .next (ended { s with session := .authenticated } (.code .ack) s.settings.pack.toList) := by
  simp [resume, hpos, resumePwdAuth]
  rfl

/-- R209: bytes that the decoder accepts and that are not the expected two, and a bare ACK, are AUTH_MISMATCH. -/
theorem resume_pwdAuth_mismatch (hpos : s.position = .pwdAuth) (hp : p ≠ some s.settings.pack.toList) :
    resume .ack p s.disarm = .next (ended { s with session := s.sessionAfterNak } .authMismatch []) := by
  have hresume : resume .ack p s.disarm = resumePwdAuth .ack p s.disarm := by simp [resume, hpos]
  rw [hresume, resumePwdAuth_fails (s := s.disarm) (fun h => hp h.2) hpos]
  rfl

/-- The answers with which PWD_AUTH succeeds. -/
def isPackAnswer (s : State) (i : Instr) : Prop :=
  ∃ r ok, i = .payload r ok ∧ delivers s r ok s.settings.pack.toList

theorem exec_packAnswer (hawait : s.await = some w) (hkind : w.kind = .payload) (hcrc : w.crc = true)
    (hpos : s.position = .pwdAuth) (hi : isPackAnswer s i) :
    exec i s = .next (ended { s with session := .authenticated } (.code .ack) s.settings.pack.toList) := by
  obtain ⟨r, ok, rfl, hr⟩ := hi
  exact (respond_delivers hawait hkind hcrc hr).trans (resume_pwdAuth_succeeds hpos)

/-- Every other response row is a failure: a code other than ACK, or AUTH_MISMATCH (R205 (b), R209). -/
theorem exec_not_packAnswer (hawait : s.await = some w) (hkind : w.kind = .payload) (hcrc : w.crc = true)
    (hpos : s.position = .pwdAuth) (hresponse : isResponse i = true) (hi : ¬ isPackAnswer s i) :
    ∃ x res, exec i s = .next (ended { s with session := x } res []) ∧ x ≠ .authenticated ∧ res ≠ .code .ack := by
  have hlistens : listens s w := listens_of hawait hpos nofun nofun
  have hdrops := State.sessionAfterNak_ne_authenticated hpos
  cases i
  case timeout => exact ⟨_, _, timeoutDisconnects s w hlistens, nofun, nofun⟩
  case nakArgument | nakCrc | nakAuthOverflow | nakWriteError | nakTimeout | nakDisconnected =>
    refine ⟨_, _, exec_nak hlistens rfl, hdrops, ?_⟩
    exact nofun
  case ack => exact ⟨_, _, (respond_short hawait).trans (resume_pwdAuth_mismatch hpos nofun), hdrops, nofun⟩
  case payload r ok =>
    rcases delivers_or_rejects s r ok with ⟨b, hr⟩ | hr
    · have hb : some b ≠ some s.settings.pack.toList := fun h => hi ⟨r, ok, rfl, Option.some.inj h ▸ hr⟩
      exact ⟨_, _, (respond_delivers hawait hkind hcrc hr).trans (resume_pwdAuth_mismatch hpos hb), hdrops, nofun⟩
    · exact ⟨_, _, exec_payload_rejects hlistens hkind hcrc hr, hdrops, nofun⟩
  all_goals cases hresponse

/-- Settles O53: an answer is the stored acknowledgement, and `exec_packAnswer` says what it does, or it is another one, and
`exec_not_packAnswer` does. -/
theorem pwdAuthSucceedsOnlyOnPack : Obligations.PwdAuthSucceedsOnlyOnPack := by
  intro s w hfault hawait hkind hcrc hpos
  refine ⟨fun ok hmode => exec_packAnswer hawait hkind hcrc hpos ⟨_, _, rfl, .inl ⟨hmode, rfl⟩⟩,
    fun hmode => exec_packAnswer hawait hkind hcrc hpos ⟨_, _, rfl, .inr ⟨hmode, rfl, rfl⟩⟩, fun i hresponse => ?_⟩
  by_cases hi : isPackAnswer s i
  · refine ⟨_, exec_packAnswer hawait hkind hcrc hpos hi, hfault, .inl ⟨rfl, rfl, rfl, rfl, ?_⟩⟩
    obtain ⟨r, ok, rfl, ⟨hmode, rfl⟩ | ⟨hmode, rfl, rfl⟩⟩ := hi
    · exact .inl ⟨hmode, ok, rfl⟩
    · exact .inr ⟨hmode, rfl⟩
  · obtain ⟨x, res, hexec, hx, hres⟩ := exec_not_packAnswer hawait hkind hcrc hpos hresponse hi
    exact ⟨_, hexec, hfault, .inr ⟨hx, hres, rfl, rfl⟩⟩

end Sys2Proof.Machine
end

section
/-! CONNECT after each of its receives (R150): the default cascade, and another select procedure. -/

namespace Sys2Proof.Machine

open Sys2Proof.Claims

variable {s : State} {w : Await} {b r : List Byte} {ok : Bool} {c : AckCode} {p : Option (List Byte)} {i : Instr}
  {body : State → Out}

theorem probeFirst_of_collides (hprobe : s.collides = true) : probeFirst s body = .refused .collision := if_pos hprobe

theorem probeFirst_of_clear (hprobe : s.collides = false) : probeFirst s body = body (probed s) :=
  if_neg (by simp [hprobe])

theorem acceptAnticoll_of_not_five {l : Cascade} (hp : ∀ d, p = some d → d.length ≠ 5) :
    acceptAnticoll l p s = .next (s.raised .selectMalformed) := by
  unfold acceptAnticoll
  split
  · exact absurd rfl (hp _ rfl)
  · rfl

theorem acceptAnticoll_of_bad_check {l : Cascade} {r0 r1 r2 r3 x : Byte}
    (h : r0 ^^^ r1 ^^^ r2 ^^^ r3 ≠ x ∨ (l = .one ∧ r0 ≠ 0x88)) :
    acceptAnticoll l (some [r0, r1, r2, r3, x]) s = .next (s.raised .selectMalformed) := by
  refine if_neg fun hok => ?_
  obtain ⟨hcheck, htag⟩ := Bool.and_eq_true_iff.mp hok
  rcases h with hbad | ⟨rfl, hbad⟩
  · exact hbad (of_decide_eq_true hcheck)
  · exact hbad (of_decide_eq_true htag)

/-- The next state after a malformed answer to an anticollision request. -/
theorem raised_probed_disarm (hfault : s.fault = none) (k : FaultKind) :
    (probed s.disarm).raised k = faulted k (probed s) :=
  State.raised_of_sound (s := probed s.disarm) hfault k

theorem raised_disarm (hfault : s.fault = none) (k : FaultKind) : s.disarm.raised k = faulted k s :=
  State.raised_of_sound (s := s.disarm) hfault k

/-- An answer that the anticollision receive takes goes to the collision probe first. -/
theorem resume_anticoll {l : Cascade} (hpos : s.position = .anticoll l) :
    resume .ack p s.disarm = probeFirst s.disarm (acceptAnticoll l p) := by
  simp [resume, hpos, resumeAnticoll]

theorem sakOk_eq (l : Cascade) (sak : Byte) : sakOk l sak = (sak.getLsbD 2 == decide (l = .one)) := by
  cases l <;> simp [sakOk]

/-- A select acknowledge of another length, without bytes, or with the wrong completion bit is malformed. -/
theorem resume_select_malformed {l : Cascade} {q : Bytes4} (hfault : s.fault = none) (hpos : s.position = .select l q)
    (hp : ∀ sak, p = some [sak] → sak.getLsbD 2 ≠ decide (l = .one)) :
    resume .ack p s.disarm = .next (faulted .selectMalformed s) := by
  have hresume : resume .ack p s.disarm = resumeSelect l q .ack p s.disarm := by simp [resume, hpos]
  rw [hresume, ← raised_disarm hfault]
  unfold resumeSelect
  rw [if_pos rfl]
  split
  · rename_i sak
    exact if_neg (by simpa [sakOk_eq] using hp sak rfl)
  · rfl

/-- Where the default cascade stops after an anticollision request. -/
theorem anticoll_stops {l : Cascade} (hfault : s.fault = none) (hawait : s.await = some w) (hkind : w.kind = .payload)
    (hpos : s.position = .anticoll l) (hcrc : w.crc = false) :
    (∀ i c, nakOf i = some c → exec i s = .next (ended s (.code c) [])) ∧
      exec .timeout s = .next (ended { s with session := .disconnected } (.code .nakTimeout) []) ∧
      (s.collides = true → (∀ b ok, exec (.payload b ok) s = .refused .collision) ∧
        exec .ack s = .refused .collision) ∧
      (s.collides = false →
        (∀ b ok, b.length ≠ 5 → exec (.payload b ok) s = .next (faulted .selectMalformed (probed s))) ∧
        (∀ r0 r1 r2 r3 x ok, r0 ^^^ r1 ^^^ r2 ^^^ r3 ≠ x ∨ (l = .one ∧ r0 ≠ 0x88) →
          exec (.payload [r0, r1, r2, r3, x] ok) s = .next (faulted .selectMalformed (probed s))) ∧
        exec .ack s = .next (faulted .selectMalformed (probed s))) := by
  have hlistens : listens s w := listens_of hawait hpos nofun nofun
  have hpayload : ∀ b ok, exec (.payload b ok) s = probeFirst s.disarm (acceptAnticoll l (some b)) := fun b ok =>
    (respond_plain hawait hkind hcrc).trans (resume_anticoll hpos)
  have hack : exec .ack s = probeFirst s.disarm (acceptAnticoll l none) :=
    (respond_short hawait).trans (resume_anticoll hpos)
  have hne : s.position ≠ .pwdAuth := hpos ▸ nofun
  refine ⟨fun i c hi => ended_sessionAfterNak hne _ _ ▸ exec_nak hlistens hi,
    timeoutDisconnects s w hlistens, fun hprobe => ⟨fun b ok => ?_, ?_⟩,
    fun hprobe => ⟨fun b ok hlen => ?length, fun r0 r1 r2 r3 x ok hbad => ?check, ?bare⟩⟩
  · exact (hpayload b ok).trans (probeFirst_of_collides (s := s.disarm) hprobe)
  · exact hack.trans (probeFirst_of_collides (s := s.disarm) hprobe)
  all_goals rw [← raised_probed_disarm hfault]
  case length =>
    rw [hpayload, probeFirst_of_clear (s := s.disarm) hprobe, acceptAnticoll_of_not_five]
    rintro d ⟨⟩
    exact hlen
  case check => rw [hpayload, probeFirst_of_clear (s := s.disarm) hprobe, acceptAnticoll_of_bad_check hbad]
  case bare =>
    rw [hack, probeFirst_of_clear (s := s.disarm) hprobe, acceptAnticoll_of_not_five]
    exact nofun

/-- Where the default cascade stops after a select. -/
theorem select_stops {l : Cascade} {q : Bytes4} (hfault : s.fault = none) (hawait : s.await = some w)
    (hkind : w.kind = .payload) (hpos : s.position = .select l q) (hcrc : w.crc = true) :
    (∀ i c, nakOf i = some c → exec i s = .next (ended s (.code c) [])) ∧
      exec .timeout s = .next (ended { s with session := .disconnected } (.code .nakTimeout) []) ∧
      (∀ b ok, (s.crcMode = .sw → ¬ crcPasses s b) → (s.crcMode = .hw → ok = false) →
        exec (.payload b ok) s = .next (ended s (.code .nakCrc) [])) ∧
      (∀ b, b.length ≠ 1 ∨ (∃ sak : Byte, b = [sak] ∧ sak.getLsbD 2 ≠ decide (l = .one)) →
        (∀ ok, s.crcMode = .sw → exec (.payload (b ++ [lo8 (s.crc16 b), hi8 (s.crc16 b)]) ok) s
          = .next (faulted .selectMalformed s)) ∧
        (s.crcMode = .hw → exec (.payload b true) s = .next (faulted .selectMalformed s))) ∧
      exec .ack s = .next (faulted .selectMalformed s) := by
  have hlistens : listens s w := listens_of hawait hpos nofun nofun
  have hne : s.position ≠ .pwdAuth := hpos ▸ nofun
  have hmalformed : ∀ r ok b, delivers s r ok b →
      b.length ≠ 1 ∨ (∃ sak : Byte, b = [sak] ∧ sak.getLsbD 2 ≠ decide (l = .one)) →
      exec (.payload r ok) s = .next (faulted .selectMalformed s) := by
    intro r ok b hr hb
    refine (respond_delivers hawait hkind hcrc hr).trans (resume_select_malformed hfault hpos ?_)
    rintro sak ⟨⟩
    rcases hb with hlen | ⟨_, ⟨⟩, hbit⟩
    · exact absurd rfl hlen
    · exact hbit
  exact ⟨fun i c hi => ended_sessionAfterNak hne _ _ ▸ exec_nak hlistens hi, timeoutDisconnects s w hlistens,
    fun b ok hsw hhw => ended_sessionAfterNak hne _ _ ▸ exec_payload_rejects hlistens hkind hcrc ⟨hsw, hhw⟩,
    fun b hb => ⟨fun ok hmode => hmalformed _ _ _ (.inl ⟨hmode, rfl⟩) hb,
      fun hmode => hmalformed _ _ _ (.inr ⟨hmode, rfl, rfl⟩) hb⟩,
    (respond_short hawait).trans (resume_select_malformed hfault hpos nofun)⟩

/-- Settles O37. -/
theorem connectStopsOnBadAnswers : Obligations.ConnectStopsOnBadAnswers := fun _ _ _ hfault hawait hkind =>
  ⟨fun hpos hcrc => anticoll_stops hfault hawait hkind hpos hcrc,
    fun _ hpos hcrc => select_stops hfault hawait hkind hpos hcrc⟩

theorem selectAskFrame_eq (ask : SelectAsk) : selectAskFrame ask =
    ⟨(if ask.level = .one then 0x93 else 0x95) :: ask.nvb :: ask.uidPart.val, 16 + 8 * ask.uidPart.val.length⟩ := by
  obtain ⟨level, nvb, ⟨u, hu⟩, _, _, _, _⟩ := ask
  cases level <;> simp [selectAskFrame, Frame.ofBytes, Opcode.selectL1, Opcode.selectL2] <;> omega

/-- What a procedure is next, on a session without a fault. -/
theorem followProcedure_eq (hfault : s.fault = none) (k : Nat) (answers : List (Option (List Byte))) :
    followProcedure k answers s = .next (procedureGoesOn k answers s) := by
  unfold followProcedure procedureGoesOn
  cases Config.customSelect k answers with
  | malformed => exact congrArg Host.Outcome.next (State.raised_of_sound hfault _)
  | send ask => exact congrArg (fun f => Host.Outcome.next ((s.goto (.procedure k ask answers)).load f)) (selectAskFrame_eq ask)
  | done u => rfl

/-- The procedure is handed an accepted answer after the probe its exchange asks for has answered false (R150). -/
theorem resume_procedure {k : Nat} {ask : SelectAsk} {answers : List (Option (List Byte))} (hfault : s.fault = none)
    (hpos : s.position = .procedure k ask answers) (hprobe : ask.probe = true → s.collides = false) :
    resume .ack p s.disarm = .next (procedureGoesOn k (answers ++ [p]) (answered ask s)) := by
  have hresume : resume .ack p s.disarm = resumeProcedure k ask answers .ack p s.disarm := by simp [resume, hpos]
  rw [hresume, resumeProcedure, if_pos rfl]
  cases hask : ask.probe with
  | true =>
    rw [if_pos rfl, probeFirst_of_clear (s := s.disarm) (hprobe hask), answered, if_pos hask]
    exact followProcedure_eq (s := probed s.disarm) hfault k _
  | false =>
    rw [if_neg nofun, answered, if_neg (by simp [hask])]
    exact followProcedure_eq (s := s.disarm) hfault k _

theorem resume_procedure_collides {k : Nat} {ask : SelectAsk} {answers : List (Option (List Byte))}
    (hpos : s.position = .procedure k ask answers) (hask : ask.probe = true) (hprobe : s.collides = true) :
    resume .ack p s.disarm = .refused .collision := by
  have hresume : resume .ack p s.disarm = resumeProcedure k ask answers .ack p s.disarm := by simp [resume, hpos]
  rw [hresume, resumeProcedure, if_pos rfl, if_pos hask]
  exact probeFirst_of_collides hprobe

/-- Settles O38: an accepted answer goes to `resume_procedure`, every other one ends the command. -/
theorem connectFollowsItsProcedure : Obligations.ConnectFollowsItsProcedure := by
  intro s w k ask answers hfault hawait hkind hpos
  have hlistens : listens s w := listens_of hawait hpos nofun nofun
  have hne : s.position ≠ .pwdAuth := hpos ▸ nofun
  refine ⟨fun hprobe => ⟨fun b ok hcrc => ?plain, fun b ok hcrc hmode => ?sw, fun b hcrc hmode => ?hw, ?bare⟩,
    fun hask hprobe => ⟨fun b ok hcrc => ?collision, ?bareCollision⟩, fun b ok hcrc hsw hhw => ?rejects,
    fun i c hi => ended_sessionAfterNak hne _ _ ▸ exec_nak hlistens hi, timeoutDisconnects s w hlistens⟩
  case plain => exact (respond_plain hawait hkind hcrc).trans (resume_procedure hfault hpos hprobe)
  case sw =>
    exact (respond_delivers hawait hkind hcrc (.inl ⟨hmode, rfl⟩)).trans (resume_procedure hfault hpos hprobe)
  case hw =>
    exact (respond_delivers hawait hkind hcrc (.inr ⟨hmode, rfl, rfl⟩)).trans (resume_procedure hfault hpos hprobe)
  case bare => exact (respond_short hawait).trans (resume_procedure hfault hpos hprobe)
  case collision => exact (respond_plain hawait hkind hcrc).trans (resume_procedure_collides hpos hask hprobe)
  case bareCollision => exact (respond_short hawait).trans (resume_procedure_collides hpos hask hprobe)
  case rejects => exact ended_sessionAfterNak hne _ _ ▸ exec_payload_rejects hlistens hkind hcrc ⟨hsw, hhw⟩

end Sys2Proof.Machine
end

section
/-! The exchange that each command or frame makes when it is taken, as a table (R68, R84 to R92, R95), and the three ways in
which it can end before its answer: the receive is outstanding, the frame was cut short (D18), or the receive is not aligned
(R115). -/

namespace Sys2Proof.Machine

open Sys2Proof.Claims

/-- One exchange up to its receive: the payload sent, its bits, whether CRC goes with it, the STATE that is entered behind
it, the receive called, and the position at which the command then waits. -/
structure Exchange where
  bytes : List Byte
  bits : Nat
  crc : Bool
  enters : Option Session
  await : Await
  next : Position

/-- What is written between transmit and receive. -/
def Exchange.after (e : Exchange) : State → State :=
  match e.enters with
  | some x => State.setSession x
  | none => id

/-- The exchange as the engine makes it. -/
def Exchange.run (e : Exchange) (s : State) : Out := exchange e.bytes e.bits e.crc e.after e.await e.next s

/-- An exchange that is made only while no command runs. -/
def atIdle (s : State) (e : Exchange) : Option Exchange :=
  match s.position with
  | .idle => some e
  | _ => none

/-- A read command of R169: CRC both ways, and `Finish` for the whole bytes of the receive. -/
def readOf (b : List Byte) (n bits : Nat) : Exchange :=
  ⟨b, n, true, none, awaitPayload bits, .finish (bits / 8)⟩

/-- REQUEST and WAKEUP (R142, R144): STATE becomes Requested between transmit and receive. -/
def probeOf (s : State) (b : List Byte) (n : Nat) (crc : Bool) : Exchange :=
  ⟨b, n, crc, some .requested, awaitPlain s.params.atqaBits, .finish (s.params.atqaBits / 8)⟩

/-- A select frame within CONNECT (R150); outside it no receive follows. -/
def selectOf (s : State) (op nvb : Byte) (u : List Byte) : Option Exchange :=
  match s.position with
  | .anticoll l => some ⟨[op, nvb] ++ u, 16 + 8 * u.length, s.params.anticollCrc, none, awaitPlain 40, .anticoll l⟩
  | .select l r => some ⟨[op, nvb] ++ u, 16 + 8 * u.length, true, none, awaitPayload 8, .select l r⟩
  | .procedure k ask answers =>
    some ⟨[op, nvb] ++ u, 16 + 8 * u.length, ask.txCrc, none, selectAskAwait ask, .procedure k ask answers⟩
  | _ => none

/-- FAST_READ of a range that is none makes no exchange (R176). -/
def fastReadOf (s : State) (a b : Byte) : Option Exchange :=
  if b.toNat < a.toNat then none else atIdle s (readOf [Opcode.fastRead, a, b] 24 (pageCount a b * 32))

/-- READ by the host, or as an iteration of READ_SETTINGS, whose position it keeps (R174, R220). -/
def readPageOf (s : State) (p : Byte) : Option Exchange :=
  match s.position with
  | .idle => some (readOf [Opcode.read, p] 16 128)
  | .readSettings done => some ⟨[Opcode.read, p], 16, true, none, awaitPayload 128, .readSettings done⟩
  | _ => none

/-- WRITE by the host, or as an iteration of WRITE_SETTINGS, whose position it keeps (R190, R224). -/
def writePageOf (s : State) (p : Byte) (d : Bytes4) : Option Exchange :=
  match s.position with
  | .idle => some ⟨[Opcode.write, p] ++ d.toList, 48, true, none, awaitAck, .finishAck⟩
  | .writeSettings r i => some ⟨[Opcode.write, p] ++ d.toList, 48, true, none, awaitAck, .writeSettings r i⟩
  | _ => none

/-- The data frame of COMP_WRITE after an acknowledged phase 1 (R194). -/
def dataFrameOf (s : State) (d : Bytes16) : Option Exchange :=
  match s.position with
  | .compPhase2 => some ⟨d.toList, 128, true, none, awaitAck, .finishAck⟩
  | _ => none

/-- The exchange of an instruction at the engine's position, if it makes one. -/
def exchangeOf (i : Instr) (s : State) : Option Exchange :=
  match i with
  | .request => atIdle s (probeOf s [Opcode.request] 7 false)
  | .wakeup => atIdle s (probeOf s [Opcode.wakeup] 8 true)
  | .getVersion => atIdle s (readOf [Opcode.getVersion] 8 64)
  | .read p => readPageOf s p
  | .fastRead a b => fastReadOf s a b
  | .write p d => writePageOf s p d
  | .compWriteP1 p d => atIdle s ⟨[Opcode.compWrite, p], 16, true, none, awaitAck, .compPhase1 d⟩
  | .compWriteP2 d => dataFrameOf s d
  | .readCnt n => atIdle s (readOf [Opcode.readCnt, n] 16 s.params.cntBits)
  | .pwdAuth w => atIdle s ⟨Opcode.pwdAuth :: w.toList, 40, true, none, awaitPayload 16, .pwdAuth⟩
  | .readSig => atIdle s (readOf [Opcode.readSig, 0] 16 s.params.sigBits)
  | .selectL1 nvb u => selectOf s Opcode.selectL1 nvb u
  | .selectL2 nvb u => selectOf s Opcode.selectL2 nvb u
  | _ => none

variable {s t : State} {i : Instr} {e e' : Exchange}

theorem atIdle_of (hidle : s.position = .idle) : atIdle s e = some e := by simp [atIdle, hidle]

theorem atIdle_eq_some (h : atIdle s e = some e') : s.position = .idle ∧ e' = e := by
  unfold atIdle at h
  split at h
  · exact ⟨‹_›, (Option.some.inj h).symm⟩
  · cases h

theorem Exchange.after_eq (e : Exchange) (s : State) : e.after s = s.setSession (e.enters.getD s.session) := by
  obtain ⟨_, _, _, _ | _, _, _⟩ := e <;> rfl

/-- What every command but ATTACH asks for before its body runs (R258); the data frame of COMP_WRITE asks for its position
in place of the session's existence (R194). -/
def entered (i : Instr) (s : State) : Prop :=
  s.fault = none ∧ s.await = none ∧ (s.attached = true ∨ s.position = .compPhase2) ∧
    (gated i = true → s.connected = true)

theorem entered.accept_eq {own : Position → Bool} {body : State → Out} (h : entered i s)
    (hphase2 : s.position ≠ .compPhase2) (hown : own s.position = true) : accept (gated i) own s body = body s := by
  obtain ⟨hfault, hawait, hattached, hgate⟩ := h
  exact accept_of hfault (hattached.resolve_right hphase2) (by simp [State.ready, hawait, hown]) hgate

theorem entered_of_accepting (hs : s.accepting) (hc : gated i = true → s.connected = true) : entered i s :=
  have ⟨hfault, hattached, _, hawait⟩ := hs
  ⟨hfault, hawait, .inl hattached, hc⟩

/-- The checks at the head of a gated command do not read the position of a connected session. -/
theorem entered_at (hs : s.accepting) (hc : s.connected = true) (p : Position) : entered i { s with position := p } :=
  have ⟨hfault, hattached, _, hawait⟩ := hs
  ⟨hfault, hawait, .inl hattached, fun _ => hc⟩

/-- A command that is taken only while no command runs. -/
theorem entered.accept_idle {body : State → Out} (h : entered i s) (hidle : s.position = .idle) :
    accept (gated i) Position.isIdle s body = body s :=
  h.accept_eq (hidle ▸ nofun) (by simp [hidle, Position.isIdle])

theorem sendSelect_eq_run {op nvb : Byte} {u : List Byte} (hi : gated i = false) (h : entered i s)
    (he : selectOf s op nvb u = some e) : sendSelect op nvb u s = e.run s := by
  unfold selectOf at he
  split at he <;> cases he
  case h_1 hpos | h_2 hpos | h_3 hpos =>
    rw [sendSelect, ← hi, h.accept_eq (hpos ▸ nofun) (by rw [hpos]; rfl), hpos]
    rfl

theorem readPageOf_eq_some {p : Byte} (he : readPageOf s p = some e) :
    (s.position = .idle ∧ e = readOf [Opcode.read, p] 16 128) ∨
      ∃ done, s.position = .readSettings done ∧ e = ⟨[Opcode.read, p], 16, true, none, awaitPayload 128, .readSettings done⟩ := by
  unfold readPageOf at he
  split at he <;> cases he
  · exact .inl ⟨‹_›, rfl⟩
  · exact .inr ⟨_, ‹_›, rfl⟩

theorem writePageOf_eq_some {p : Byte} {d : Bytes4} (he : writePageOf s p d = some e) :
    (s.position = .idle ∧ e = ⟨[Opcode.write, p] ++ d.toList, 48, true, none, awaitAck, .finishAck⟩) ∨
      ∃ r k, s.position = .writeSettings r k ∧
        e = ⟨[Opcode.write, p] ++ d.toList, 48, true, none, awaitAck, .writeSettings r k⟩ := by
  unfold writePageOf at he
  split at he <;> cases he
  · exact .inl ⟨‹_›, rfl⟩
  · exact .inr ⟨_, _, ‹_›, rfl⟩

theorem dataFrameOf_eq_some {d : Bytes16} (he : dataFrameOf s d = some e) :
    s.position = .compPhase2 ∧ e = ⟨d.toList, 128, true, none, awaitAck, .finishAck⟩ := by
  unfold dataFrameOf at he
  split at he <;> cases he
  exact ⟨‹_›, rfl⟩

theorem fastReadOf_eq_some {a b : Byte} (he : fastReadOf s a b = some e) :
    ¬ b.toNat < a.toNat ∧ s.position = .idle ∧ e = readOf [Opcode.fastRead, a, b] 24 (pageCount a b * 32) := by
  unfold fastReadOf at he
  split at he
  case isTrue => cases he
  case isFalse hle => exact ⟨hle, atIdle_eq_some he⟩

theorem selectOf_eq_some {op nvb : Byte} {u : List Byte} (he : selectOf s op nvb u = some e) :
    e.bytes = [op, nvb] ++ u ∧ e.bits = 16 + 8 * u.length ∧ e.enters = none ∧ e.next = s.position ∧
      ((∃ l, s.position = .anticoll l ∧ e.crc = s.params.anticollCrc ∧ e.await = awaitPlain 40) ∨
        (∃ l r, s.position = .select l r ∧ e.crc = true ∧ e.await = awaitPayload 8) ∨
        (∃ k ask answers, s.position = .procedure k ask answers ∧ e.crc = ask.txCrc ∧ e.await = selectAskAwait ask)) := by
  unfold selectOf at he
  split at he <;> cases he
  case h_1 hpos => exact ⟨rfl, rfl, rfl, hpos.symm, .inl ⟨_, hpos, rfl, rfl⟩⟩
  case h_2 hpos => exact ⟨rfl, rfl, rfl, hpos.symm, .inr (.inl ⟨_, _, hpos, rfl, rfl⟩)⟩
  case h_3 hpos => exact ⟨rfl, rfl, rfl, hpos.symm, .inr (.inr ⟨_, _, _, hpos, rfl, rfl⟩)⟩

/-- An instruction that is taken makes its exchange. -/
theorem exec_eq_run (h : entered i s) (he : exchangeOf i s = some e) : exec i s = e.run s := by
  cases i
  case request | wakeup | getVersion | compWriteP1 | readCnt | pwdAuth | readSig =>
    obtain ⟨hidle, rfl⟩ := atIdle_eq_some he
    exact h.accept_idle hidle
  case fastRead a b =>
    obtain ⟨hle, hidle, rfl⟩ := fastReadOf_eq_some he
    rw [exec, execFastRead]
    exact (h.accept_idle hidle).trans (if_neg hle)
  case read p =>
    rcases readPageOf_eq_some he with ⟨hpos, rfl⟩ | ⟨done, hpos, rfl⟩
    all_goals
      rw [exec, execRead]
      refine (h.accept_eq (hpos ▸ nofun) (by rw [hpos]; rfl)).trans ?_
      simp only [hpos]
      rfl
  case write p d =>
    rcases writePageOf_eq_some he with ⟨hpos, rfl⟩ | ⟨r, k, hpos, rfl⟩
    all_goals
      rw [exec, execWrite]
      refine (h.accept_eq (hpos ▸ nofun) (by rw [hpos]; rfl)).trans ?_
      simp only [hpos]
      rfl
  case compWriteP2 d =>
    obtain ⟨hpos, rfl⟩ := dataFrameOf_eq_some he
    obtain ⟨hfault, hawait, _, _⟩ := h
    have hdue : exec (.compWriteP2 d) s = exchange d.toList 128 true id awaitAck .finishAck s := by
      simp [exec, execCompWriteP2, hfault, hpos, hawait]
    exact hdue
  case selectL1 nvb u => exact sendSelect_eq_run rfl h he
  case selectL2 nvb u => exact sendSelect_eq_run rfl h he
  all_goals
    have hnone : none = some e := he
    cases hnone

/-- Every frame of the table has bits, and whole bytes where CRC goes with it (R115); only a receive without CRC follows a
change of STATE (R142). -/
theorem exchangeOf_wf (he : exchangeOf i s = some e) :
    e.bits ≠ 0 ∧ (e.crc = true → e.bits % 8 = 0) ∧ (e.await.crc = true → e.enters = none) := by
  cases i
  case request | wakeup =>
    obtain ⟨_, rfl⟩ := atIdle_eq_some he
    exact ⟨nofun, by simp [probeOf], nofun⟩
  case getVersion | compWriteP1 | readCnt | pwdAuth | readSig =>
    obtain ⟨_, rfl⟩ := atIdle_eq_some he
    exact ⟨nofun, by simp [readOf], fun _ => rfl⟩
  case fastRead a b =>
    obtain ⟨_, _, rfl⟩ := fastReadOf_eq_some he
    exact ⟨nofun, by simp [readOf], fun _ => rfl⟩
  case read p =>
    rcases readPageOf_eq_some he with ⟨_, rfl⟩ | ⟨_, _, rfl⟩ <;> exact ⟨nofun, by simp [readOf], fun _ => rfl⟩
  case write p d =>
    rcases writePageOf_eq_some he with ⟨_, rfl⟩ | ⟨_, _, _, rfl⟩ <;> exact ⟨nofun, by simp, fun _ => rfl⟩
  case compWriteP2 d =>
    obtain ⟨_, rfl⟩ := dataFrameOf_eq_some he
    exact ⟨nofun, by simp, fun _ => rfl⟩
  case selectL1 | selectL2 =>
    obtain ⟨_, hbits, henters, _⟩ := selectOf_eq_some he
    exact ⟨by omega, fun _ => by omega, fun _ => henters⟩
  all_goals
    have hnone : none = some e := he
    cases hnone

theorem txCall_eq_sentAs (s : State) (b : List Byte) (n : Nat) (crc : Bool) : s.txCall b n crc = sentAs s crc b n := by
  cases crc with
  | true => exact txCall_crc s b n
  | false => rfl

theorem rxCall_eq_askedAs (s : State) (a : Await) : s.rxCall a = askedAs s a.crc a.bits := by
  unfold State.rxCall askedAs wireRx
  cases a.crc <;> cases s.crcMode <;> rfl

/-- A frame that the transport sends whole. -/
theorem txFrame_of_sent {b : List Byte} {n : Nat} {crc : Bool} (hn : n ≠ 0) (hcrc : crc = true → n % 8 = 0)
    (hsent : s.sentAll = true) : txFrame s b n crc = .ok (s.transmitted b n crc) := by
  have hmis : ¬(crc = true ∧ n % 8 ≠ 0) := fun hm => hm.2 (hcrc hm.1)
  rw [txFrame, if_neg hn, if_neg hmis, if_pos hsent]

/-- A frame that the transport does not send whole (D18). -/
theorem txFrame_of_cut {b : List Byte} {n : Nat} {crc : Bool} {body : State → Out} (hn : n ≠ 0)
    (hcrc : crc = true → n % 8 = 0) (hfault : s.fault = none) (hsent : s.sentAll = false) :
    (txFrame s b n crc).andThen body = .next (cutShort s (sentAs s crc b n)) := by
  have hmis : ¬(crc = true ∧ n % 8 ≠ 0) := fun hm => hm.2 (hcrc hm.1)
  rw [txFrame, if_neg hn, if_neg hmis, if_neg (by simp [hsent]), ← txCall_eq_sentAs]
  exact congrArg Host.Outcome.next (State.raised_of_sound (s := s.transmitted b n crc) hfault _)

/-- The exchange goes through: the frame is sent, the receive called, and the command waits. -/
theorem exec_waiting (h : entered i s) (he : exchangeOf i s = some e) (hsent : s.sentAll = true)
    (haligned : e.await.crc = true → e.await.bits % 8 = 0) :
    exec i s = .next { waiting s (sentAs s e.crc e.bytes e.bits) (askedAs s e.await.crc e.await.bits) e.await e.next with
      session := e.enters.getD s.session } := by
  obtain ⟨hbits, hcrc, _⟩ := exchangeOf_wf he
  rw [exec_eq_run h he, Exchange.run, exchange_of hbits hcrc hsent haligned, Exchange.after_eq, ← txCall_eq_sentAs,
    ← rxCall_eq_askedAs]
  rfl

/-- The frame is not sent whole (D18). -/
theorem exec_cutShort (h : entered i s) (he : exchangeOf i s = some e) (hsent : s.sentAll = false) :
    exec i s = .next (cutShort s (sentAs s e.crc e.bytes e.bits)) := by
  obtain ⟨hbits, hcrc, _⟩ := exchangeOf_wf he
  have ⟨hfault, _⟩ := h
  rw [exec_eq_run h he, Exchange.run, exchange, txFrame_of_cut hbits hcrc hfault hsent]

/-- The frame is sent, and the receive with CRC is of no whole number of bytes (R115). -/
theorem exec_unaligned (h : entered i s) (he : exchangeOf i s = some e) (hsent : s.sentAll = true)
    (hcrc : e.await.crc = true) (hodd : e.await.bits % 8 ≠ 0) :
    exec i s = .next (faulted .crcUnaligned
      { s with env := s.afterSent.env, events := sentAs s e.crc e.bytes e.bits :: s.events }) := by
  obtain ⟨hbits, haligned, hstays⟩ := exchangeOf_wf he
  have ⟨hfault, _⟩ := h
  rw [exec_eq_run h he, Exchange.run, exchange, txFrame_of_sent hbits haligned hsent, Call.andThen, callReceive,
    if_pos ⟨hcrc, hodd⟩, Exchange.after_eq, hstays hcrc, ← txCall_eq_sentAs]
  exact congrArg Host.Outcome.next (State.raised_of_sound (s := s.transmitted e.bytes e.bits e.crc) hfault _)

end Sys2Proof.Machine
end

section
/-! The commands of one exchange, each read off the table (R142, R144, R146, R148, R169, R189, R205). -/

namespace Sys2Proof.Machine

open Sys2Proof.Claims

variable {s t : State} {i : Instr}

theorem selectOf_anticoll {l : Cascade} (hpos : s.position = .anticoll l) (op nvb : Byte) (u : List Byte) :
    selectOf s op nvb u
      = some ⟨[op, nvb] ++ u, 16 + 8 * u.length, s.params.anticollCrc, none, awaitPlain 40, .anticoll l⟩ := by
  simp [selectOf, hpos]

theorem selectOf_select {l : Cascade} {r : Bytes4} (hpos : s.position = .select l r) (op nvb : Byte) (u : List Byte) :
    selectOf s op nvb u = some ⟨[op, nvb] ++ u, 16 + 8 * u.length, true, none, awaitPayload 8, .select l r⟩ := by
  simp [selectOf, hpos]

theorem selectOf_procedure {k : Nat} {ask : SelectAsk} {answers : List (Option (List Byte))}
    (hpos : s.position = .procedure k ask answers) (op nvb : Byte) (u : List Byte) :
    selectOf s op nvb u = some ⟨[op, nvb] ++ u, 16 + 8 * u.length, ask.txCrc, none, selectAskAwait ask,
      .procedure k ask answers⟩ := by
  simp [selectOf, hpos]

theorem readPageOf_idle (hpos : s.position = .idle) (p : Byte) :
    readPageOf s p = some (readOf [Opcode.read, p] 16 128) := by
  simp [readPageOf, hpos]

theorem readPageOf_readSettings {done : List Bytes4} (hpos : s.position = .readSettings done) (p : Byte) :
    readPageOf s p = some ⟨[Opcode.read, p], 16, true, none, awaitPayload 128, .readSettings done⟩ := by
  simp [readPageOf, hpos]

theorem writePageOf_idle (hpos : s.position = .idle) (p : Byte) (d : Bytes4) :
    writePageOf s p d = some ⟨[Opcode.write, p] ++ d.toList, 48, true, none, awaitAck, .finishAck⟩ := by
  simp [writePageOf, hpos]

theorem writePageOf_writeSettings {r : Settings} {k : Nat} (hpos : s.position = .writeSettings r k) (p : Byte)
    (d : Bytes4) :
    writePageOf s p d = some ⟨[Opcode.write, p] ++ d.toList, 48, true, none, awaitAck, .writeSettings r k⟩ := by
  simp [writePageOf, hpos]

theorem dataFrameOf_compPhase2 (hpos : s.position = .compPhase2) (d : Bytes16) :
    dataFrameOf s d = some ⟨d.toList, 128, true, none, awaitAck, .finishAck⟩ := by
  simp [dataFrameOf, hpos]

theorem fastReadOf_idle (hpos : s.position = .idle) {a b : Byte} (hle : a.toNat ≤ b.toNat) :
    fastReadOf s a b = some (readOf [Opcode.fastRead, a, b] 24 (pageCount a b * 32)) := by
  simp [fastReadOf, atIdle_of hpos, hle]

/-- Settles O32. -/
theorem requestAndWakeupProbe : Obligations.RequestAndWakeupProbe := by
  intro s hs
  have ⟨_, _, hidle, _⟩ := hs
  have hrequest : entered .request s := entered_of_accepting hs nofun
  have hwakeup : entered .wakeup s := entered_of_accepting hs nofun
  refine ⟨fun hsent => ?whole, fun hsent => ⟨exec_cutShort hrequest (atIdle_of hidle) hsent,
    exec_cutShort hwakeup (atIdle_of hidle) hsent⟩⟩
  case whole =>
    have hexecRequest := exec_waiting hrequest (atIdle_of hidle) hsent nofun
    have hexecWakeup := exec_waiting hwakeup (atIdle_of hidle) hsent nofun
    refine ⟨hexecRequest, hexecWakeup, fun i t hi h => ?_⟩
    rcases hi with rfl | rfl
    · cases hexecRequest.symm.trans h
      exact ⟨rfl, rfl, rfl⟩
    · cases hexecWakeup.symm.trans h
      exact ⟨rfl, rfl, rfl⟩

/-- Outside CONNECT a select frame is sent, with CRC, and nothing else happens (R146, log 18). -/
theorem State.accepting.sendSelect_eq (hs : s.accepting) (op nvb : Byte) (u : List Byte) :
    sendSelect op nvb u s = (txFrame s ([op, nvb] ++ u) (16 + 8 * u.length) true).andThen .next := by
  have ⟨_, _, hidle, _⟩ := hs
  rw [sendSelect, hs.accept_ungated_eq rfl, hidle]

theorem sendSelect_alone {op nvb : Byte} {u : List Byte} (hs : s.accepting) (hsent : s.sentAll = true) :
    sendSelect op nvb u s = .next { s with
      env := s.afterSent.env, events := wireTx s (op :: nvb :: u) (16 + 8 * u.length) :: s.events } := by
  rw [hs.sendSelect_eq, txFrame_of_sent (by omega) (fun _ => by omega) hsent, ← txCall_crc]
  rfl

/-- Settles O34. -/
theorem selectFramesAreSent : Obligations.SelectFramesAreSent := by
  intro s nvb u hfault hattached hawait hsent
  have hL1 : entered (.selectL1 nvb u) s := ⟨hfault, hawait, .inl hattached, nofun⟩
  have hL2 : entered (.selectL2 nvb u) s := ⟨hfault, hawait, .inl hattached, nofun⟩
  refine ⟨fun hpos => ?alone, fun l hpos hcrc => ?withCrc, fun l hpos hcrc => ?withoutCrc, fun l r hpos => ?select,
    fun k ask answers hpos haligned => ?procedure⟩
  case alone =>
    have hs : s.accepting := ⟨hfault, hattached, hpos, hawait⟩
    exact ⟨sendSelect_alone hs hsent, sendSelect_alone hs hsent⟩
  case withCrc | withoutCrc =>
    have hanticoll := selectOf_anticoll hpos
    rw [hcrc] at hanticoll
    exact ⟨exec_waiting hL1 (hanticoll _ _ _) hsent nofun, exec_waiting hL2 (hanticoll _ _ _) hsent nofun⟩
  case select =>
    exact ⟨exec_waiting hL1 (selectOf_select hpos _ _ _) hsent fun _ => (rfl : 8 % 8 = 0),
      exec_waiting hL2 (selectOf_select hpos _ _ _) hsent fun _ => (rfl : 8 % 8 = 0)⟩
  case procedure =>
    exact ⟨exec_waiting hL1 (selectOf_procedure hpos _ _ _) hsent haligned,
      exec_waiting hL2 (selectOf_procedure hpos _ _ _) hsent haligned⟩

/-- Settles O43. -/
theorem readCommandsListen : Obligations.ReadCommandsListen := by
  intro s hs hc hsent
  have ⟨_, _, hidle, _⟩ := hs
  exact ⟨exec_waiting (i := .getVersion) (entered_of_accepting hs fun _ => hc) (atIdle_of hidle) hsent fun _ =>
      (rfl : 64 % 8 = 0),
    fun p => exec_waiting (i := .read p) (entered_of_accepting hs fun _ => hc) (readPageOf_idle hidle p) hsent fun _ =>
      (rfl : 128 % 8 = 0),
    fun n haligned => exec_waiting (i := .readCnt n) (entered_of_accepting hs fun _ => hc) (atIdle_of hidle) hsent fun _ => haligned,
    fun haligned => exec_waiting (i := .readSig) (entered_of_accepting hs fun _ => hc) (atIdle_of hidle) hsent fun _ => haligned⟩

/-- R97: the pages from `a` to `b`, counted without wrap. -/
theorem pageCount_eq {a b : Byte} {k : Nat} (hk : b.toNat + 1 = a.toNat + k) (hpos : 0 < k) : pageCount a b = k := by
  unfold pageCount
  omega

/-- Settles O44: after the gate the range is checked, and `pageCount` pages of 32 bits are asked for. -/
theorem fastReadRequestsItsRange : Obligations.FastReadRequestsItsRange := by
  intro s a b hs
  have ⟨hfault, _, hidle, _⟩ := hs
  refine ⟨fun hc => hs.exec_gated hc rfl, fun hc hlt => ?_, fun k hc hsent hk hpos => ⟨?_, ?_⟩⟩
  · rw [exec, execFastRead, hs.accept_eq hc rfl, if_pos hlt, raise_eq, State.raised_of_sound hfault]
  · have := b.isLt
    omega
  · have hcount : pageCount a b = k := pageCount_eq hk hpos
    have hbytes : k * 32 / 8 = k * 4 := by omega
    have he := fastReadOf_idle (s := s) hidle (a := a) (b := b) (by omega)
    rw [hcount, readOf, hbytes] at he
    exact exec_waiting (i := .fastRead a b) (entered_of_accepting hs fun _ => hc) he hsent fun _ => by
      simp only [awaitPayload]
      omega

/-- Settles O48. -/
theorem writeCommandsListen : Obligations.WriteCommandsListen := by
  refine ⟨fun s hs hc hsent => ?_, fun s d hfault hawait hpos hsent => ?_, fun s d hfault hpos => ?_⟩
  · have ⟨_, _, hidle, _⟩ := hs
    exact ⟨fun p d => exec_waiting (i := .write p d) (entered_of_accepting hs fun _ => hc) (writePageOf_idle hidle p d) hsent nofun,
      fun p d => exec_waiting (i := .compWriteP1 p d) (entered_of_accepting hs fun _ => hc) (atIdle_of hidle) hsent nofun⟩
  · exact exec_waiting (i := .compWriteP2 d) ⟨hfault, hawait, .inr hpos, nofun⟩ (dataFrameOf_compPhase2 hpos d) hsent
      nofun
  · simp [exec, execCompWriteP2, hfault, hpos]

/-- Settles O52. -/
theorem pwdAuthListens : Obligations.PwdAuthListens := fun _ w hs hc hsent =>
  have ⟨_, _, hidle, _⟩ := hs
  exec_waiting (i := .pwdAuth w) (entered_of_accepting hs fun _ => hc) (atIdle_of hidle) hsent fun _ => (rfl : 16 % 8 = 0)

/-- R64, R97: the page of the first frame of a settings command is the base page. -/
theorem settingsPage_zero (v : Variant) : settingsPage v 0 = cfgBase v := BitVec.add_zero _

/-- Settles O55. -/
theorem settingsMacrosBegin : Obligations.SettingsMacrosBegin := by
  intro s hs hc
  refine ⟨?read, fun r => ?write, fun p done hsent => ?readPage, fun p d r k hsent => ?writePage⟩
  case read =>
    rw [exec, execReadSettings, hs.accept_eq hc rfl, settingsReadFrame, settingsPage_zero]
    rfl
  case write =>
    rw [exec, execWriteSettings, hs.accept_eq hc rfl, settingsWriteFrame, settingsPage_zero]
    rfl
  case readPage =>
    exact exec_waiting (i := .read p) (entered_at hs hc _) (readPageOf_readSettings rfl p) hsent fun _ =>
      (rfl : 128 % 8 = 0)
  case writePage =>
    exact exec_waiting (i := .write p d) (entered_at hs hc _) (writePageOf_writeSettings rfl p d) hsent nofun

theorem sendSelect_cutShort {op nvb : Byte} {u : List Byte} (hs : s.accepting) (hsent : s.sentAll = false) :
    sendSelect op nvb u s = .next (cutShort s (sentAs s true (op :: nvb :: u) (16 + 8 * u.length))) := by
  have ⟨hfault, _⟩ := hs
  rw [hs.sendSelect_eq, txFrame_of_cut (by omega) (fun _ => by omega) hfault hsent]
  rfl

/-- Settles O59. -/
theorem faultyExchangesStopBeforeTheReceive : Obligations.FaultyExchangesStopBeforeTheReceive := by
  refine ⟨fun s hs hc hsent => ?cut, fun s nvb u crc hfault hattached hawait hsent hpos => ?selectCut,
    fun s hs hc hsent => ?unaligned, fun s nvb u k ask answers hfault hattached hawait hsent hpos hcrc hodd => ?ask⟩
  case cut =>
    have ⟨_, _, hidle, _⟩ := hs
    have hgate : ∀ {i : Instr}, entered i s := entered_of_accepting hs fun _ => hc
    exact ⟨exec_cutShort (i := .getVersion) hgate (atIdle_of hidle) hsent,
      fun p => exec_cutShort (i := .read p) hgate (readPageOf_idle hidle p) hsent,
      fun a b hle => exec_cutShort (i := .fastRead a b) hgate (fastReadOf_idle hidle hle) hsent,
      fun n => exec_cutShort (i := .readCnt n) hgate (atIdle_of hidle) hsent,
      exec_cutShort (i := .readSig) hgate (atIdle_of hidle) hsent,
      fun p d => exec_cutShort (i := .write p d) hgate (writePageOf_idle hidle p d) hsent,
      fun p d => exec_cutShort (i := .compWriteP1 p d) hgate (atIdle_of hidle) hsent,
      fun w => exec_cutShort (i := .pwdAuth w) hgate (atIdle_of hidle) hsent,
      fun d => exec_cutShort (i := .compWriteP2 d) (entered_at hs hc _) (dataFrameOf_compPhase2 rfl d) hsent,
      fun p _ => exec_cutShort (i := .read p) (entered_at hs hc _) (readPageOf_readSettings rfl p) hsent,
      fun p d _ _ => exec_cutShort (i := .write p d) (entered_at hs hc _) (writePageOf_writeSettings rfl p d) hsent⟩
  case selectCut =>
    have hL1 : entered (.selectL1 nvb u) s := ⟨hfault, hawait, .inl hattached, nofun⟩
    have hL2 : entered (.selectL2 nvb u) s := ⟨hfault, hawait, .inl hattached, nofun⟩
    rcases hpos with ⟨hidle, rfl⟩ | ⟨l, hpos, rfl⟩ | ⟨l, r, hpos, rfl⟩ | ⟨k, ask, answers, hpos, rfl⟩
    · have hs : s.accepting := ⟨hfault, hattached, hidle, hawait⟩
      exact ⟨sendSelect_cutShort hs hsent, sendSelect_cutShort hs hsent⟩
    · exact ⟨exec_cutShort hL1 (selectOf_anticoll hpos _ _ _) hsent,
        exec_cutShort hL2 (selectOf_anticoll hpos _ _ _) hsent⟩
    · exact ⟨exec_cutShort hL1 (selectOf_select hpos _ _ _) hsent, exec_cutShort hL2 (selectOf_select hpos _ _ _) hsent⟩
    · exact ⟨exec_cutShort hL1 (selectOf_procedure hpos _ _ _) hsent,
        exec_cutShort hL2 (selectOf_procedure hpos _ _ _) hsent⟩
  case unaligned =>
    have ⟨_, _, hidle, _⟩ := hs
    exact ⟨fun n hodd => exec_unaligned (i := .readCnt n) (entered_of_accepting hs fun _ => hc) (atIdle_of hidle) hsent rfl hodd,
      fun hodd => exec_unaligned (i := .readSig) (entered_of_accepting hs fun _ => hc) (atIdle_of hidle) hsent rfl hodd⟩
  case ask =>
    have hL1 : entered (.selectL1 nvb u) s := ⟨hfault, hawait, .inl hattached, nofun⟩
    have hL2 : entered (.selectL2 nvb u) s := ⟨hfault, hawait, .inl hattached, nofun⟩
    exact ⟨exec_unaligned hL1 (selectOf_procedure hpos _ _ _) hsent hcrc hodd,
      exec_unaligned hL2 (selectOf_procedure hpos _ _ _) hsent hcrc hodd⟩

end Sys2Proof.Machine
end

section
/-! The commands without an exchange, and HALT, which makes no receive (R124, R140, R150 to R156). -/

namespace Sys2Proof.Machine

open Sys2Proof.Claims

variable {s t : State} {i : Instr}

/-- Settles O39. -/
theorem haltSleeps : Obligations.HaltSleeps := by
  intro s hs hc
  have ⟨hfault, _⟩ := hs
  have hexec : exec .halt s
      = (txFrame s [Opcode.halt] 8 true).andThen fun s => finishAck .ack (s.setSession .halted) := by
    rw [exec, execHalt, hs.accept_eq hc rfl]
  refine ⟨fun hsent => ⟨_, ?whole, rfl, rfl, rfl, rfl⟩, fun hsent => ?cut⟩
  case whole =>
    rw [hexec, txFrame_of_sent (by decide) (by decide) hsent, ← txCall_crc]
    rfl
  case cut => exact hexec.trans (txFrame_of_cut (by decide) (by decide) hfault hsent)

/-- DESTROY on a free session (R156, D22). -/
theorem State.accepting.execDestroy_eq (hs : s.accepting) : execDestroy s
    = .next ((((s.setUid State.reset.uid).setSettings Settings.default).setSession .idle).complete (.code .ack) []) := by
  rw [execDestroy, hs.accept_ungated_eq rfl, finishAck_eq]

/-- Settles O40. -/
theorem disconnectAndDestroy : Obligations.DisconnectAndDestroy := fun _ hs =>
  ⟨hs.execDisconnect_eq, hs.execDestroy_eq⟩

/-- Settles O35. -/
theorem connectStartsInRequested : Obligations.ConnectStartsInRequested := by
  intro s hs
  have ⟨hfault, _⟩ := hs
  refine ⟨fun k hx hproc => ?_, fun hx hproc => ?_, fun hx => ?_⟩
  · rw [exec, execConnect, hs.accept_ungated_eq rfl, if_pos hx, hproc]
    exact followProcedure_eq hfault k []
  · rw [exec, execConnect, hs.accept_ungated_eq rfl, if_pos hx, hproc]
    rfl
  · exact (hs.execConnect_of_ne_requested hx).trans (congrArg Host.Outcome.next (State.raised_of_sound hfault _))

/-- ATTACH on a free engine is decided by `attachFault` alone (R140). -/
theorem exec_attach_of_free {v : Byte} {tr : Transport} {m : CrcMode} (hawait : s.await = none)
    (hidle : s.position = .idle) :
    exec (.attach v tr m) s = match attachFault (variantOf v) tr m, variantOf v with
      | none, some v => .next (s.create v tr m)
      | some k, _ => raise k s.clearFault
      | none, none => raise .badVariant s.clearFault :=
  if_neg (by simp [State.ready, hawait, hidle, Position.isIdle])

/-- A failing ATTACH has cleared the old fault before it raises its own (R140, R250). -/
theorem raise_clearFault (k : FaultKind) (s : State) : raise k s.clearFault = .next (faulted k s) := rfl

theorem exec_attach_of_fault {v : Byte} {tr : Transport} {m : CrcMode} {k : FaultKind} (hawait : s.await = none)
    (hidle : s.position = .idle) (hk : attachFault (variantOf v) tr m = some k) :
    exec (.attach v tr m) s = .next (faulted k s) := by
  rw [exec_attach_of_free hawait hidle, hk, ← raise_clearFault]

/-- R21, log 7: the port numbers of the three variants. -/
theorem variantOf_eq_none_iff (v : Byte) : variantOf v = none ↔ 2 < v.toNat := by
  unfold variantOf
  repeat' split
  all_goals simp
  all_goals bv_omega

/-- Settles O14. -/
theorem settingsBasePages : Obligations.SettingsBasePages := by
  refine ⟨rfl, rfl, rfl, fun v i hi => ?_, fun v tr m s hv hawait hidle => ?_⟩
  · cases v <;> interval_cases i <;> decide
  · refine exec_attach_of_fault hawait hidle ?_
    simp [attachFault, (variantOf_eq_none_iff v).mpr hv]

/-- Settles O31. -/
theorem attachDemandsCapabilities : Obligations.AttachDemandsCapabilities := by
  intro v tr m s hv hawait hidle
  have hvariant : variantOf v ≠ none := fun h => absurd ((variantOf_eq_none_iff v).mp h) (by omega)
  refine ⟨fun hraw => ?_, fun htransmit hreceive hmode hcrc => ?_, fun htransmit hreceive hmode hcrc => ?_⟩
  all_goals refine exec_attach_of_fault hawait hidle ?_
  · simp [attachFault, hvariant, hraw]
  · simp [attachFault, hvariant, htransmit, hreceive, hmode, hcrc]
  · simp [attachFault, hvariant, htransmit, hreceive, hmode, hcrc]

/-- Settles O30. -/
theorem attachCreatesTheSession : Obligations.AttachCreatesTheSession := by
  intro v var tr m s hv htransmit hreceive hhw hsw hawait hidle
  have hvariant : variantOf v = some var := by rcases hv with ⟨rfl, rfl⟩ | ⟨rfl, rfl⟩ | ⟨rfl, rfl⟩ <;> rfl
  have hcapable : attachFault (some var) tr m = none := by
    cases m <;> simp_all [attachFault]
  rw [exec_attach_of_free hawait hidle, hvariant, hcapable]
  rfl

/-- Every host command but ATTACH is a body behind the checks of R258, gated or not, and none is taken within PWD_AUTH. -/
theorem exec_eq_accept (hi : gated i = true ∨ ungated i = true) :
    ∃ own body, (∀ s, exec i s = accept (gated i) own s body) ∧ own .pwdAuth = false := by
  cases i
  case request | wakeup | halt | getVersion | read | fastRead | write | compWriteP1 | readCnt | pwdAuth | readSig
      | disconnect | destroy | connect | readSettings | writeSettings => exact ⟨_, _, fun _ => rfl, rfl⟩
  all_goals simp [gated, ungated] at hi

/-- Settles O25. -/
theorem faultedSessionRefuses : Obligations.FaultedSessionRefuses := by
  intro i s k hi hfault
  obtain ⟨own, body, hexec, _⟩ := exec_eq_accept hi
  exact (hexec s).trans (accept_faulted hfault)

/-- Settles O26. -/
theorem unattachedSessionRefuses : Obligations.UnattachedSessionRefuses := by
  intro i s hi hfault hattached
  obtain ⟨own, body, hexec, _⟩ := exec_eq_accept hi
  rw [hexec, accept, hfault]
  exact if_pos hattached

/-- While a receive is outstanding no host command is taken (R280, D27). -/
theorem exec_of_outstanding (hi : gated i = true ∨ ungated i = true) (hfault : s.fault = none)
    (hattached : s.attached = true) (hawait : s.await ≠ none) : exec i s = .refused .commandRunning := by
  obtain ⟨own, body, hexec, _⟩ := exec_eq_accept hi
  have hbusy : s.ready own = false := by
    cases ha : s.await with
    | none => exact absurd ha hawait
    | some w => simp [State.ready, ha]
  rw [hexec, accept, hfault]
  simp [hattached, hbusy]

theorem exec_attach_of_running {v : Byte} {tr : Transport} {m : CrcMode} (hpos : s.position ≠ .idle) :
    exec (.attach v tr m) s = .refused .commandRunning := by
  have hbusy : s.position.isIdle = false := by
    cases hp : s.position with
    | idle => exact absurd hp hpos
    | _ => rfl
  exact if_pos (by simp [State.ready, hbusy])

end Sys2Proof.Machine
end

section
/-! One step: what the engine takes next and what it does with it (R71, R120, R258), and the reset state (R41). -/

namespace Sys2Proof.Machine

open Sys2Proof.Claims

variable {s t u : State} {i j : Instr} {f : Frame} {a : Answer} {w : Await}

theorem step_command {rest : List Frame} (hawait : s.await = none) (htx : s.txbuf = none) (hcmd : s.cmd = f :: rest)
    (hdecode : decode (.cmd f) = .ok i) : step s = exec i { s with cmd := rest } := by
  simp [step, fetch, fetchCommand, hawait, htx, hcmd, hdecode, State.takeCmd]

theorem step_frame (hawait : s.await = none) (htx : s.txbuf = some f) (hdecode : decode (.tx f) = .ok i) :
    step s = exec i { s with txbuf := none } := by
  simp [step, fetch, fetchFrame, hawait, htx, hdecode, State.unload]

theorem step_waiting (hawait : s.await = none) (htx : s.txbuf = none) (hcmd : s.cmd = []) : step s = .next s := by
  simp [step, fetch, fetchCommand, hawait, htx, hcmd]

section Listed

variable {rest : List Answer} (hawait : s.await = some w) (hrx : s.env.rx = a :: rest)
include hawait hrx

omit hawait in
/-- The next listed answer is the one a receive gets, and it is then used up (log 6). -/
theorem answer_of_listed : s.answer = a ∧ s.afterAnswer = { s with env := { s.env with rx := rest } } := by
  simp [State.answer, State.afterAnswer, hrx]

theorem step_answer (hdecode : decode (.rx a) = .ok i) :
    step s = exec i { s with env := { s.env with rx := rest } } := by
  obtain ⟨hanswer, hafter⟩ := answer_of_listed hrx
  simp [step, fetch, fetchAnswer, hawait, hanswer, hdecode, hafter]

/-- R66, R93: a bit count that no answer has is RX_MALFORMED (D17). -/
theorem step_answer_malformed (hfault : s.fault = none) (hdecode : decode (.rx a) = .error .malformedLength) :
    step s = .next (faulted .rxMalformed { s with env := { s.env with rx := rest } }) := by
  obtain ⟨hanswer, hafter⟩ := answer_of_listed hrx
  simp only [step, fetch, fetchAnswer, hawait, hanswer, hdecode, hafter]
  exact congrArg Host.Outcome.next (State.raised_of_sound (s := { s with env := { s.env with rx := rest } }) hfault _)

/-- R99: a 4-bit value that names no code is RESERVED_NIBBLE (D16). -/
theorem step_answer_reserved (hfault : s.fault = none) (hdecode : decode (.rx a) = .error .reservedNibble) :
    step s = .next (faulted .reservedNibble { s with env := { s.env with rx := rest } }) := by
  obtain ⟨hanswer, hafter⟩ := answer_of_listed hrx
  simp only [step, fetch, fetchAnswer, hawait, hanswer, hdecode, hafter]
  exact congrArg Host.Outcome.next (State.raised_of_sound (s := { s with env := { s.env with rx := rest } }) hfault _)

end Listed

/-- Settles O18. -/
theorem stepRunsTheDecodedInstruction : Obligations.StepRunsTheDecodedInstruction :=
  ⟨fun _ _ _ _ hawait htx hcmd hdecode => step_command hawait htx hcmd hdecode,
    fun _ _ _ hawait htx hdecode => step_frame hawait htx hdecode,
    fun _ _ _ _ _ hawait hrx hdecode => step_answer hawait hrx hdecode,
    fun _ hawait htx hcmd => step_waiting hawait htx hcmd⟩

/-- The bit count says how an answer is decoded, and only for 4 bits do the bits too (R93). -/
theorem decodeRx_timeout (hbits : a.bits = 0) : decodeRx a = .ok .timeout := if_pos hbits

theorem decodeRx_whole_bytes (hlen : a.bits ≤ 8 * a.buf.length) (hne : a.bits ≠ 0) (hwhole : a.bits % 8 = 0) :
    decodeRx a = .ok (.payload (a.buf.take (a.bits / 8)) a.crcOk) := by
  have hfour : a.bits ≠ 4 := by omega
  simp [decodeRx, hne, Nat.not_lt.mpr hlen, hfour, hwhole]

theorem decodeRx_odd (hlen : a.bits ≤ 8 * a.buf.length) (hfour : a.bits ≠ 4) (hodd : a.bits % 8 ≠ 0) :
    decodeRx a = .error .malformedLength := by
  have hne : a.bits ≠ 0 := fun h => hodd (by rw [h])
  simp [decodeRx, hne, Nat.not_lt.mpr hlen, hfour, hodd]

theorem decodeRx_nibble (hlen : a.bits ≤ 8 * a.buf.length) (hfour : a.bits = 4) :
    decodeRx a = decodeNibble ((a.buf.headD 0).extractLsb' 0 4) := by
  have hne : a.bits ≠ 0 := by omega
  rw [decodeRx, if_neg hne, if_neg (Nat.not_lt.mpr hlen), if_pos hfour]

/-- R99: a value that is no code's value names none. -/
theorem decodeNibble_reserved {v : BitVec 4} (hv : ∀ c, codeBits c ≠ v) : decodeNibble v = .error .reservedNibble := by
  have hne : ∀ c, v ≠ codeBits c := fun c h => hv c h.symm
  exact (if_neg (hne .ack)).trans <| (if_neg (hne .nakArgument)).trans <| (if_neg (hne .nakCrc)).trans <|
    (if_neg (hne .nakAuthOverflow)).trans <| (if_neg (hne .nakWriteError)).trans <|
    (if_neg (hne .nakTimeout)).trans <| if_neg (hne .nakDisconnected)

/-- Settles O5: each bit count has its decoding, which the step takes. -/
theorem answersToldApartByBitCount : Obligations.AnswersToldApartByBitCount :=
  fun _ _ _ _ hawait hrx hfault hlen =>
    ⟨fun hbits => step_answer hawait hrx (decodeRx_timeout hbits),
      fun hne hwhole => step_answer hawait hrx (decodeRx_whole_bytes hlen hne hwhole),
      fun hfour hodd => step_answer_malformed hawait hrx hfault (decodeRx_odd hlen hfour hodd),
      fun hfour hv => step_answer_reserved hawait hrx hfault
        ((decodeRx_nibble hlen hfour).trans (decodeNibble_reserved hv))⟩

/-- Settles O15. -/
theorem resetIsACreatedSession : Obligations.ResetIsACreatedSession := by
  refine ⟨rfl, rfl, rfl, rfl, rfl, rfl, rfl, rfl, rfl, rfl, rfl, rfl, rfl, rfl, rfl, rfl, rfl, rfl, rfl, rfl, rfl, rfl,
    ⟨rfl, rfl, rfl, rfl⟩, fun s h => ?_⟩
  cases h
  rfl

/-- Settles O16. -/
theorem resetSatisfiesInvariant : Obligations.ResetSatisfiesInvariant where
  buffers := reset_wf
  discarded := fun h => absurd rfl h
  stopped := fun _ => rfl
  unborn := fun _ => rfl
  admitted := trivial
  progress := trivial
  sequenced := ⟨rfl, rfl⟩
  listening := nofun
  capable := fun _ => ⟨rfl, rfl, nofun, fun _ => nofun⟩

/-- A port word whose data operand is absent (R190, D33). -/
theorem step_absentOperand {rest : List Frame} (hrest : s.atRest) (hcmd : s.cmd = f :: rest)
    (hdecode : decode (.cmd f) = .error .absentOperand) : step s = absentOperand { s with cmd := rest } := by
  obtain ⟨_, _, hawait, htx⟩ := hrest
  simp [step, fetch, fetchCommand, hawait, htx, hcmd, hdecode, State.takeCmd]

/-- Settles O60: the operand check comes after the gate. -/
theorem absentOperandFaults : Obligations.AbsentOperandFaults := by
  intro s page f hf hrest hattached hcmd
  have ⟨hfault, hidle, hawait, _⟩ := hrest
  have hdecode : decode (.cmd f) = .error .absentOperand := by rcases hf with rfl | rfl | rfl | rfl <;> rfl
  have hs : State.accepting { s with cmd := [] } := ⟨hfault, hattached, hidle, hawait⟩
  rw [step_absentOperand hrest hcmd hdecode, absentOperand]
  refine ⟨fun hc => ?_, fun hc => ?_⟩
  · rw [hs.accept_eq hc rfl]
    exact congrArg Host.Outcome.next (State.raised_of_sound (s := { s with cmd := [] }) hfault _)
  · exact accept_gate hfault hattached (by simp [State.ready, hidle, hawait, Position.isIdle]) hc

end Sys2Proof.Machine
end

section
/-! Everything a command can do after its receive (R118, R126), in one relation: it stops with its code, it raises a fault, it
goes on with its next frame, or it is complete. -/

namespace Sys2Proof.Machine

open Sys2Proof.Claims

variable {s s' t : State} {c : AckCode} {p : Option (List Byte)}

/-- The position at which a command of several exchanges goes on after an acknowledged one (R150, R194, R220, R224). -/
inductive Position.Follows : Position → Position → Prop
  | dataFrame (d : Bytes16) : Follows (.compPhase1 d) .compPhase2
  | select (l : Cascade) (r : Bytes4) : Follows (.anticoll l) (.select l r)
  | levelTwo (r : Bytes4) (part : Bytes3) : Follows (.select .one r) (.anticoll (.two part))
  | procedure (k : Nat) (ask ask' : SelectAsk) (answers answers' : List (Option (List Byte))) :
      Follows (.procedure k ask answers) (.procedure k ask' answers')
  | readPage {done : List Bytes4} (page : Bytes4) (hdone : done.length ≠ 3) :
      Follows (.readSettings done) (.readSettings (done ++ [page]))
  | writePage (r : Settings) {n : Nat} (hn : n < 3) : Follows (.writeSettings r n) (.writeSettings r (n + 1))

/-- The state in which the answer is looked at: the collision probe has been made where CONNECT makes one (R150). -/
def Heard (s s' : State) : Prop := s' = s ∨ s' = (s.record .probe).afterProbe

/-- CONNECT is complete with the UID `u`, at level 2 of the default cascade or where another procedure says so. -/
def Captures (p : Option (List Byte)) (s : State) (u : Uid) : Prop :=
  (∃ part r sak, s.position = .select (.two part) r ∧ p = some [sak] ∧ u = ⟨part, r⟩) ∨
    ∃ k ask answers, s.position = .procedure k ask answers ∧ Config.customSelect k (answers ++ [p]) = .done u

/-- What `resume` can answer. -/
inductive Resumed (c : AckCode) (p : Option (List Byte)) (s : State) : State → Prop
  | stops (hc : c ≠ .ack) : Resumed c p s ((s.setSession s.sessionAfterNak).complete (.code c) [])
  | raised {s' : State} (k : FaultKind) (hc : c = .ack) (hs : Heard s s') : Resumed c p s (s'.raised k)
  | continues {s' : State} {q : Position} (b : List Byte) (hc : c = .ack) (hs : Heard s s')
      (hq : s.position.Follows q) : Resumed c p s ((s'.goto q).load (Frame.ofBytes b))
  | delivered {b : List Byte} (hc : c = .ack) (hp : p = some b) : Resumed c p s (s.complete (.code .ack) b)
  | acknowledged (hc : c = .ack) : Resumed c p s (s.complete (.code .ack) [])
  | authenticated (hc : c = .ack) (hpos : s.position = .pwdAuth) (hp : p = some s.settings.pack.toList) :
      Resumed c p s ((s.setSession .authenticated).complete (.code .ack) s.settings.pack.toList)
  | mismatched (hc : c = .ack) (hpos : s.position = .pwdAuth) :
      Resumed c p s ((s.setSession s.sessionAfterNak).complete .authMismatch [])
  | captured {s' : State} {u : Uid} (hc : c = .ack) (hs : Heard s s') (hu : Captures p s u) :
      Resumed c p s (((s'.setUid u).setSession .selected).complete (.code .ack) [])
  | settingsRead {p0 p1 p2 page : Bytes4} {rest : List Byte} (hc : c = .ack)
      (hpos : s.position = .readSettings [p0, p1, p2]) (hp : p = some (page.toList ++ rest)) :
      Resumed c p s ((s.setSettings (unpack s.params.codec ⟨p0, p1, p2, page⟩)).complete (.code .ack)
        (Bytes16.toList ⟨p0, p1, p2, page⟩))
  | settingsWritten {r : Settings} {n : Nat} (hc : c = .ack) (hpos : s.position = .writeSettings r n) (hn : 3 ≤ n) :
      Resumed c p s ((s.setSettings r).complete (.code .ack) [])

/-- A code other than ACK ends the command that waits, whichever it is. -/
theorem resume_ne_ack_next (hc : c ≠ .ack) (h : resume c p s = .next t) :
    t = (s.setSession s.sessionAfterNak).complete (.code c) [] := by
  by_cases hidle : s.position = .idle
  · simp [resume, hidle] at h
  · by_cases hphase2 : s.position = .compPhase2
    · simp [resume, hphase2] at h
    · cases (resume_nak hc hidle hphase2).symm.trans h
      rfl

theorem followProcedure_resumed {k : Nat} {ask : SelectAsk} {answers : List (Option (List Byte))}
    (hpos : s.position = .procedure k ask answers) (hs : Heard s s')
    (h : followProcedure k (answers ++ [p]) s' = .next t) : Resumed .ack p s t := by
  rcases followProcedure_next h with ⟨_, rfl⟩ | ⟨ask', _, rfl⟩ | ⟨u, hdone, rfl⟩
  · exact .raised _ rfl hs
  · exact .continues _ rfl hs (hpos ▸ .procedure k ask ask' answers _)
  · exact .captured rfl hs (.inr ⟨k, ask, answers, hpos, hdone⟩)

/-- Everything a command can do after its receive. -/
theorem resume_resumed (h : resume c p s = .next t) : Resumed c p s t := by
  by_cases hc : c = .ack
  case neg =>
    rw [resume_ne_ack_next hc h]
    exact .stops hc
  subst hc
  cases hpos : s.position <;> simp only [resume, hpos] at h
  case idle | compPhase2 => cases h
  case finish n =>
    rcases finish_next h with ⟨b, _, hp, _, rfl⟩ | ⟨_, rfl⟩ | ⟨hne, _⟩
    · exact .delivered rfl hp
    · exact .raised _ rfl (.inl rfl)
    · exact absurd rfl hne
  case finishAck =>
    cases h
    exact .acknowledged rfl
  case pwdAuth =>
    rcases resumePwdAuth_next h with ⟨_, hp, rfl⟩ | ⟨hfails, _⟩
    · exact .authenticated rfl hpos hp
    · cases (resumePwdAuth_fails hfails hpos).symm.trans h
      exact .mismatched rfl hpos
  case compPhase1 d =>
    cases h
    exact .continues _ rfl (.inl rfl) (hpos ▸ .dataFrame d)
  case anticoll l =>
    rcases resumeAnticoll_next h with ⟨hne, _⟩ | ⟨_, rfl⟩ | ⟨r, check, _, _, rfl⟩
    · exact absurd rfl hne
    · exact .raised _ rfl (.inr rfl)
    · exact .continues _ rfl (.inr rfl) (hpos ▸ .select l r)
  case select l r =>
    rcases resumeSelect_next h with ⟨hne, _⟩ | ⟨_, rfl⟩ | ⟨_, rfl, rfl⟩ | ⟨part, sak, _, rfl, hp, rfl⟩
    · exact absurd rfl hne
    · exact .raised _ rfl (.inl rfl)
    · exact .continues _ rfl (.inl rfl) (hpos ▸ .levelTwo r _)
    · exact .captured rfl (.inl rfl) (.inl ⟨part, r, sak, hpos, hp, rfl⟩)
  case procedure k ask answers =>
    rcases resumeProcedure_next h with ⟨hne, _⟩ | ⟨_, s', hs, hf⟩
    · exact absurd rfl hne
    · exact followProcedure_resumed hpos hs hf
  case readSettings done =>
    rcases resumeReadSettings_next h with
      ⟨hne, _⟩ | ⟨_, rfl⟩ | ⟨page, rest, _, hp, _, ⟨p0, p1, p2, rfl, rfl⟩ | ⟨hdone, rfl⟩⟩
    · exact absurd rfl hne
    · exact .raised _ rfl (.inl rfl)
    · exact .settingsRead rfl hpos hp
    · exact .continues _ rfl (.inl rfl) (hpos ▸ .readPage page hdone)
  case writeSettings r n =>
    rcases resumeWriteSettings_next h with ⟨hne, _⟩ | ⟨_, hn, rfl⟩ | ⟨_, hn, rfl⟩
    · exact absurd rfl hne
    · exact .settingsWritten rfl hpos hn
    · exact .continues _ rfl (.inl rfl) (hpos ▸ .writePage r hn)

end Sys2Proof.Machine
end

section
/-! Everything an instruction can do, in one relation: the whole-machine statements are read off it. -/

namespace Sys2Proof.Machine

open Sys2Proof.Claims

variable {s t : State} {i : Instr} {r : Response} {a : Await}

/-- What a response row brings to the receive (R93). -/
def responseOf : Instr → Option Response
  | .ack => some (.short .ack)
  | .nakArgument => some (.short .nakArgument)
  | .nakCrc => some (.short .nakCrc)
  | .nakAuthOverflow => some (.short .nakAuthOverflow)
  | .nakWriteError => some (.short .nakWriteError)
  | .nakTimeout => some (.short .nakTimeout)
  | .nakDisconnected => some (.short .nakDisconnected)
  | .payload b ok => some (.full b ok)
  | .timeout => some .timeout
  | _ => none

theorem exec_of_responseOf (hi : responseOf i = some r) (s : State) : exec i s = respond r s := by
  cases i <;> cases hi <;> rfl

theorem isResponse_of_responseOf (hi : responseOf i = some r) : isResponse i = true := by
  cases i <;> cases hi <;> rfl

theorem exists_responseOf (hi : isResponse i = true) : ∃ r, responseOf i = some r := by
  cases i
  case ack | nakArgument | nakCrc | nakAuthOverflow | nakWriteError | nakTimeout | nakDisconnected | payload | timeout =>
    exact ⟨_, rfl⟩
  all_goals cases hi

theorem eq_timeout_of_responseOf (hi : responseOf i = some .timeout) : i = .timeout := by
  cases i <;> cases hi
  rfl

theorem eq_ack_of_responseOf (hi : responseOf i = some (.short .ack)) : i = .ack := by
  cases i <;> cases hi
  rfl

theorem eq_payload_of_responseOf {b : List Byte} {ok : Bool} (hi : responseOf i = some (.full b ok)) :
    i = .payload b ok := by
  cases i <;> cases hi
  rfl

/-- R120: the decoder says ACK to the 4-bit ACK, without a payload, and to bytes of a payload receive, with one. -/
theorem rxFrame_ack (h : (rxFrame s a r).code = .ack) :
    (r = .short .ack ∧ (rxFrame s a r).payload = none) ∨
      ∃ b ok q, r = .full b ok ∧ (rxFrame s a r).payload = some q ∧ a.kind = .payload := by
  cases r with
  | timeout => cases h
  | short c => exact .inl ⟨congrArg _ h, rfl⟩
  | full b ok =>
    cases hkind : a.kind with
    | ackOnly => exact absurd h (rxFrame_ackOnly_ne_ack hkind nofun)
    | payload =>
      refine .inr ⟨b, ok, ?_⟩
      unfold rxFrame at h ⊢
      repeat' split at h
      all_goals simp_all

theorem rxFrame_state_of_ne_timeout (hr : r ≠ .timeout) : (rxFrame s a r).state = s := by
  rcases rxFrame_state s a r with hs | ⟨hr', _⟩
  · exact hs
  · exact absurd hr' hr

/-- The position at which a settings command or CONNECT begins (R150, R220, R224), and the STATE in which it may. -/
inductive Begins : Instr → State → Position → Prop
  | connect {s : State} (hx : s.session = .requested) : Begins .connect s (.anticoll .one)
  | connectBy {s : State} (k : Nat) (ask : SelectAsk) (hx : s.session = .requested) :
      Begins .connect s (.procedure k ask [])
  | readSettings {s : State} (hc : s.connected = true) : Begins .readSettings s (.readSettings [])
  | writeSettings {s : State} (r : Settings) (hc : s.connected = true) : Begins (.writeSettings r) s (.writeSettings r 0)

/-- What `exec` can answer. Every command but ATTACH has passed the checks of R258. -/
inductive Ran (i : Instr) (s : State) : State → Prop
  | gateStops (hi : gated i = true) (hfault : s.fault = none) (hc : s.connected = false) :
      Ran i s (s.complete (.code .nakDisconnected) [])
  | raised (k : FaultKind) (h : entered i s) : Ran i s (s.raised k)
  | cut (b : List Byte) (n : Nat) (crc : Bool) (h : entered i s) :
      Ran i s ((s.transmitted b n crc).raised .txIncomplete)
  | unaligned (b : List Byte) (n : Nat) (crc : Bool) (h : entered i s) :
      Ran i s ((s.transmitted b n crc).raised .crcUnaligned)
  | listening {e : Exchange} (h : entered i s) (he : exchangeOf i s = some e) :
      Ran i s (((s.transmitted e.bytes e.bits e.crc).setSession (e.enters.getD s.session)).listening e.await e.next)
  | sentAlone (b : List Byte) (n : Nat) (h : entered i s) (hidle : s.position = .idle) (hi : gated i = false) :
      Ran i s (s.transmitted b n true)
  | halted (b : List Byte) (n : Nat) (h : entered i s) (hi : i = .halt) :
      Ran i s (((s.transmitted b n true).setSession .halted).complete (.code .ack) [])
  | begins {q : Position} (b : List Byte) (h : entered i s) (hidle : s.position = .idle) (hq : Begins i s q) :
      Ran i s ((s.goto q).load (Frame.ofBytes b))
  | connected {k : Nat} {u : Uid} (h : entered i s) (hi : i = .connect) (hx : s.session = .requested)
      (hproc : s.params.selectProc = .custom k) (hdone : Config.customSelect k [] = .done u) :
      Ran i s (((s.setUid u).setSession .selected).complete (.code .ack) [])
  | disconnected (h : entered i s) (hi : i = .disconnect) :
      Ran i s ((s.setSession .disconnected).complete (.code .ack) [])
  | destroyed (h : entered i s) (hi : i = .destroy) :
      Ran i s ((((s.setUid State.reset.uid).setSettings Settings.default).setSession .idle).complete (.code .ack) [])
  | created {v : Byte} {var : Variant} {tr : Transport} {m : CrcMode} (hi : i = .attach v tr m)
      (hcapable : attachFault (some var) tr m = none) : Ran i s (s.create var tr m)
  | notCreated {v : Byte} {tr : Transport} {m : CrcMode} (k : FaultKind) (hi : i = .attach v tr m) :
      Ran i s (s.clearFault.raised k)
  | timedOut (hi : i = .timeout) : Ran i s ((s.disarm.setSession .disconnected).complete (.code .nakTimeout) [])
  | answered {t : State} {r : Response} {a : Await} (hi : responseOf i = some r) (hr : r ≠ .timeout)
      (hawait : s.await = some a)
      (h : Resumed (rxFrame s.disarm a r).code (rxFrame s.disarm a r).payload s.disarm t) : Ran i s t

/-- A command behind the checks of R258: the gate ends it, or its body runs. -/
theorem accept_ran {own : Position → Bool} {body : State → Out} (h : accept (gated i) own s body = .next t)
    (hbody : entered i s → own s.position = true → body s = .next t → Ran i s t) : Ran i s t := by
  obtain ⟨hfault, hattached, hready, ⟨hi, hc, rfl⟩ | ⟨hgate, hb⟩⟩ := accept_next h
  · exact .gateStops hi hfault hc
  · have ⟨hawait, hown⟩ : s.await = none ∧ own s.position = true := by simpa [State.ready] using hready
    exact hbody ⟨hfault, hawait, .inl hattached, hgate⟩ hown hb

/-- An instruction with an exchange. -/
theorem ran_of_exchange {e : Exchange} (hent : entered i s) (he : exchangeOf i s = some e) (h : exec i s = .next t) :
    Ran i s t := by
  obtain ⟨hbits, hcrc, hstays⟩ := exchangeOf_wf he
  rw [exec_eq_run hent he] at h
  rcases exchange_next h with ⟨h0, _⟩ | ⟨hc, hodd, _⟩ | ⟨_, rfl⟩ | ⟨_, hc, _, rfl⟩ | ⟨_, rfl⟩
  · exact absurd h0 hbits
  · exact absurd (hcrc hc) hodd
  · exact .cut _ _ _ hent
  · rw [Exchange.after_eq, hstays hc]
    exact .unaligned _ _ _ hent
  · rw [Exchange.after_eq]
    exact .listening hent he

theorem Position.eq_idle_of_isIdle {q : Position} (h : q.isIdle = true) : q = .idle := by
  cases q
  case idle => rfl
  all_goals cases h

/-- An instruction whose exchange is made only while no command runs. -/
theorem accept_idle_ran {e : Exchange} {body : State → Out} (he : s.position = .idle → exchangeOf i s = some e)
    (hexec : exec i s = accept (gated i) Position.isIdle s body) (h : exec i s = .next t) : Ran i s t :=
  accept_ran (hexec ▸ h) fun hent hown _ => ran_of_exchange hent (he (Position.eq_idle_of_isIdle hown)) h

/-- An aligned frame that no receive follows is cut short, or it is sent and the rest of the rule runs. -/
theorem txFrame_ran {b : List Byte} {n : Nat} {body : State → Out} (hent : entered i s) (hn : n ≠ 0) (haligned : n % 8 = 0)
    (h : (txFrame s b n true).andThen body = .next t) (hbody : body (s.transmitted b n true) = .next t → Ran i s t) :
    Ran i s t := by
  rcases txFrame_cases s b n true with ⟨h0, _⟩ | ⟨_, _, hodd, _⟩ | ⟨_, _, _, hr⟩ | ⟨_, _, _, hr⟩
  · exact absurd h0 hn
  · exact absurd haligned hodd
  · rw [hr] at h
    cases h
    exact .cut b n true hent
  · rw [hr] at h
    exact hbody h

/-- A select frame: within CONNECT it is an exchange, outside it the frame alone (R146, log 18). -/
theorem sendSelect_ran {op nvb : Byte} {u : List Byte} (hi : gated i = false)
    (he : exchangeOf i s = selectOf s op nvb u) (hexec : exec i s = sendSelect op nvb u s) (h : exec i s = .next t) :
    Ran i s t := by
  have h' := hexec ▸ h
  rw [sendSelect, ← hi] at h'
  refine accept_ran h' fun hent hown hb => ?_
  cases hpos : s.position <;> simp only [hpos, Position.ownsSelect] at hown hb
  case idle =>
    refine txFrame_ran hent (by omega) (by omega) hb fun hsent => ?_
    cases hsent
    exact .sentAlone _ _ hent hpos hi
  case anticoll => exact ran_of_exchange hent (he.trans (selectOf_anticoll hpos op nvb u)) h
  case select => exact ran_of_exchange hent (he.trans (selectOf_select hpos op nvb u)) h
  case procedure => exact ran_of_exchange hent (he.trans (selectOf_procedure hpos op nvb u)) h
  all_goals cases hown

theorem execRead_ran {pg : Byte} (h : execRead pg s = .next t) : Ran (.read pg) s t := by
  have h' := h
  unfold execRead at h'
  refine accept_ran (i := .read pg) h' fun hent hown _ => ?_
  cases hpos : s.position <;> simp only [hpos, Position.ownsRead] at hown
  case idle => exact ran_of_exchange (i := .read pg) hent (readPageOf_idle hpos pg) h
  case readSettings => exact ran_of_exchange (i := .read pg) hent (readPageOf_readSettings hpos pg) h
  all_goals cases hown

theorem execWrite_ran {pg : Byte} {d : Bytes4} (h : execWrite pg d s = .next t) : Ran (.write pg d) s t := by
  have h' := h
  unfold execWrite at h'
  refine accept_ran (i := .write pg d) h' fun hent hown _ => ?_
  cases hpos : s.position <;> simp only [hpos, Position.ownsWrite] at hown
  case idle => exact ran_of_exchange (i := .write pg d) hent (writePageOf_idle hpos pg d) h
  case writeSettings => exact ran_of_exchange (i := .write pg d) hent (writePageOf_writeSettings hpos pg d) h
  all_goals cases hown

theorem execFastRead_ran {x y : Byte} (h : execFastRead x y s = .next t) : Ran (.fastRead x y) s t := by
  have h' := h
  unfold execFastRead at h'
  refine accept_ran (i := .fastRead x y) h' fun hent hown hb => ?_
  split at hb
  case isTrue =>
    cases hb
    exact .raised _ hent
  case isFalse hle =>
    exact ran_of_exchange (i := .fastRead x y) hent
      (fastReadOf_idle (Position.eq_idle_of_isIdle hown) (Nat.not_lt.mp hle)) h

theorem execCompWriteP2_ran {d : Bytes16} (h : execCompWriteP2 d s = .next t) : Ran (.compWriteP2 d) s t := by
  have h' := h
  unfold execCompWriteP2 at h'
  split at h'
  case h_1 => cases h'
  case h_2 hfault =>
    split at h'
    case isTrue hdue =>
      exact ran_of_exchange (i := .compWriteP2 d) ⟨hfault, hdue.2, .inr hdue.1, nofun⟩
        (dataFrameOf_compPhase2 hdue.1 d) h
    case isFalse => cases h'

theorem execHalt_ran (h : execHalt s = .next t) : Ran .halt s t := by
  unfold execHalt at h
  refine accept_ran (i := .halt) h fun hent _ hb => ?_
  refine txFrame_ran hent (by decide) rfl hb fun hsent => ?_
  cases hsent
  exact .halted _ _ hent rfl

theorem execDisconnect_ran (h : execDisconnect s = .next t) : Ran .disconnect s t := by
  unfold execDisconnect at h
  refine accept_ran (i := .disconnect) h fun hent _ hb => ?_
  cases hb
  exact .disconnected hent rfl

theorem execDestroy_ran (h : execDestroy s = .next t) : Ran .destroy s t := by
  unfold execDestroy at h
  refine accept_ran (i := .destroy) h fun hent _ hb => ?_
  cases hb
  exact .destroyed hent rfl

theorem execReadSettings_ran (h : execReadSettings s = .next t) : Ran .readSettings s t := by
  unfold execReadSettings at h
  refine accept_ran (i := .readSettings) h fun hent hown hb => ?_
  cases hb
  have ⟨_, _, _, hgate⟩ := hent
  exact .begins _ hent (Position.eq_idle_of_isIdle hown) (.readSettings (hgate rfl))

theorem execWriteSettings_ran {r : Settings} (h : execWriteSettings r s = .next t) : Ran (.writeSettings r) s t := by
  unfold execWriteSettings at h
  refine accept_ran (i := .writeSettings r) h fun hent hown hb => ?_
  cases hb
  have ⟨_, _, _, hgate⟩ := hent
  exact .begins _ hent (Position.eq_idle_of_isIdle hown) (.writeSettings r (hgate rfl))

theorem execConnect_ran (h : execConnect s = .next t) : Ran .connect s t := by
  unfold execConnect at h
  refine accept_ran (i := .connect) h fun hent hown hb => ?_
  have hidle := Position.eq_idle_of_isIdle hown
  split at hb
  case isFalse =>
    cases hb
    exact .raised _ hent
  case isTrue hx =>
    split at hb
    case h_1 =>
      cases hb
      exact .begins _ hent hidle (.connect hx)
    case h_2 k hproc =>
      rcases followProcedure_next hb with ⟨_, rfl⟩ | ⟨ask, _, rfl⟩ | ⟨u, hdone, rfl⟩
      · exact .raised _ hent
      · exact .begins _ hent hidle (.connectBy k ask hx)
      · exact .connected hent rfl hx hproc hdone

theorem execAttach_ran {v : Byte} {tr : Transport} {m : CrcMode} (h : execAttach v tr m s = .next t) :
    Ran (.attach v tr m) s t := by
  unfold execAttach at h
  split at h
  case isTrue => cases h
  case isFalse =>
    split at h
    case h_1 var hcapable hvar =>
      cases h
      exact .created rfl (hvar ▸ hcapable)
    case h_2 | h_3 =>
      cases h
      exact .notCreated _ rfl

/-- A response ends the receive it belongs to: zero bits end the command, everything else takes it on (R120, R158). -/
theorem respond_cases (h : respond r s = .next t) :
    (r = .timeout ∧ t = (s.disarm.setSession .disconnected).complete (.code .nakTimeout) []) ∨
      (r ≠ .timeout ∧ ∃ a, s.await = some a ∧
        Resumed (rxFrame s.disarm a r).code (rxFrame s.disarm a r).payload s.disarm t) := by
  obtain ⟨a, hawait, hr⟩ := respond_next h
  by_cases htimeout : r = .timeout
  · subst htimeout
    have hlinkLost : (s.disarm.setSession .disconnected).sessionAfterNak = .disconnected := if_neg nofun
    have hstops := resume_ne_ack_next (c := .nakTimeout) (s := s.disarm.setSession .disconnected) nofun hr
    rw [hlinkLost] at hstops
    exact .inl ⟨rfl, hstops⟩
  · rw [rxFrame_state_of_ne_timeout htimeout] at hr
    exact .inr ⟨htimeout, a, hawait, resume_resumed hr⟩

theorem respond_ran (hi : responseOf i = some r) (h : respond r s = .next t) : Ran i s t := by
  rcases respond_cases h with ⟨rfl, rfl⟩ | ⟨hr, a, hawait, hres⟩
  · exact .timedOut (eq_timeout_of_responseOf hi)
  · exact .answered hi hr hawait hres

/-- Everything an instruction can do. -/
theorem exec_ran (h : exec i s = .next t) : Ran i s t := by
  cases i
  case request | wakeup | getVersion | compWriteP1 | readCnt | pwdAuth | readSig =>
    exact accept_idle_ran atIdle_of rfl h
  case read => exact execRead_ran h
  case write => exact execWrite_ran h
  case fastRead => exact execFastRead_ran h
  case compWriteP2 => exact execCompWriteP2_ran h
  case selectL1 => exact sendSelect_ran rfl rfl rfl h
  case selectL2 => exact sendSelect_ran rfl rfl rfl h
  case connect => exact execConnect_ran h
  case attach => exact execAttach_ran h
  case halt => exact execHalt_ran h
  case disconnect => exact execDisconnect_ran h
  case destroy => exact execDestroy_ran h
  case readSettings => exact execReadSettings_ran h
  case writeSettings => exact execWriteSettings_ran h
  all_goals exact respond_ran rfl h

end Sys2Proof.Machine
end

section
/-! The engine's invariant (R25, R31, R42, R57, R124, R250): each way in which an instruction can end has its lemma, and a step
hands an instruction a state that is ready for it. -/

namespace Sys2Proof.Machine

open Sys2Proof.Claims

variable {s s' t : State} {i : Instr} {e : Exchange} {q q' : Position}

/-- The positions at which the running command's next frame stands in the TX buffer. -/
def Position.awaitsFrame : Position → Bool
  | .anticoll _ | .select _ _ | .procedure _ _ _ | .readSettings _ | .writeSettings _ _ | .compPhase2 => true
  | .idle | .finish _ | .finishAck | .pwdAuth | .compPhase1 _ => false

/-- The positions at which a command can wait for an answer. -/
def Position.awaitsAnswer : Position → Bool
  | .idle | .compPhase2 => false
  | _ => true

theorem Position.Follows.awaitsFrame (h : q.Follows q') : q'.awaitsFrame = true := by cases h <;> rfl

theorem Position.Follows.allows {x : Session} (h : q.Follows q') (hx : q.allows x) : q'.allows x := by cases h <;> exact hx

theorem Position.Follows.inRange (h : q.Follows q') (hq : q.inRange) : q'.inRange := by
  cases h
  case readPage done page hdone =>
    simp only [Position.inRange, List.length_append, List.length_singleton] at hq ⊢
    omega
  case writePage r n hn => exact hn
  all_goals trivial

theorem Begins.awaitsFrame (h : Begins i s q) : q.awaitsFrame = true := by cases h <;> rfl

theorem Begins.inRange (h : Begins i s q) : q.inRange := by
  cases h
  case readSettings | writeSettings => exact Nat.zero_le 3
  all_goals trivial

theorem Begins.allows (h : Begins i s q) : q.allows s.session := by cases h <;> assumption

/-- A state in which `exec` is handed an instruction: the frame, if it was one, has been taken from the TX buffer; a receive
is outstanding where a command only waits, and none where it has its next frame to send. -/
def State.due (s : State) : Prop :=
  s.txbuf = none ∧ (s.position.awaitsAnswer = false → s.await = none) ∧
    (s.position ≠ .idle → s.position.awaitsFrame = false → s.await.isSome = true)

/-- The invariant of a state in which `exec` is handed an instruction. -/
structure Poised (s : State) : Prop where
  buffers : Memory.wf s = true
  discarded : s.result ≠ .code .ack → s.rxlen = 0
  stopped : s.fault ≠ none → s.position = .idle
  unborn : s.attached = false → s.position = .idle
  admitted : s.position.allows s.session
  progress : s.position.inRange
  listening : ∀ a, s.await = some a → s.position.expects a
  capable : s.capable
  due : s.due

/-- The end of a command. -/
theorem inv_complete {r : Result} {b : List Byte} (hcapable : s.capable) (hb : r ≠ .code .ack → b = []) :
    Inv (s.complete r b) where
  buffers := complete_wf r b
  discarded := fun hr => by simp [hb hr]
  stopped := fun _ => rfl
  unborn := fun _ => rfl
  admitted := trivial
  progress := trivial
  sequenced := ⟨rfl, rfl⟩
  listening := nofun
  capable := hcapable

/-- A fault. -/
theorem inv_raised {k : FaultKind} (hbuffers : Memory.wf s = true) (hdiscarded : s.result ≠ .code .ack → s.rxlen = 0)
    (hcapable : s.capable) : Inv (s.raised k) where
  buffers := raised_wf k hbuffers
  discarded := hdiscarded
  stopped := fun _ => rfl
  unborn := fun _ => rfl
  admitted := trivial
  progress := trivial
  sequenced := ⟨rfl, rfl⟩
  listening := nofun
  capable := hcapable

/-- A command that puts its next frame into the TX buffer. -/
theorem inv_load {b : List Byte} (hbuffers : Memory.wf s = true) (hdiscarded : s.result ≠ .code .ack → s.rxlen = 0)
    (hfault : s.fault = none) (hattached : s.attached = true) (hcapable : s.capable) (hawait : s.await = none)
    (hframe : q.awaitsFrame = true) (hallows : q.allows s.session) (hrange : q.inRange) :
    Inv ((s.goto q).load (Frame.ofBytes b)) where
  buffers := load_wf b hbuffers
  discarded := hdiscarded
  stopped := fun h => absurd hfault h
  unborn := fun h => absurd (hattached.symm.trans h) nofun
  admitted := hallows
  progress := hrange
  sequenced := by
    cases q <;> simp [State.sequenced, hawait] <;> cases hframe
  listening := fun a ha => absurd (hawait.symm.trans ha) nofun
  capable := hcapable

/-- A command whose receive is called. -/
theorem inv_listening {a : Await} (hbuffers : Memory.wf s = true) (hdiscarded : s.result ≠ .code .ack → s.rxlen = 0)
    (hfault : s.fault = none) (hattached : s.attached = true) (hcapable : s.capable) (htx : s.txbuf = none)
    (hanswer : q.awaitsAnswer = true) (hexpects : q.expects a) (hallows : q.allows s.session) (hrange : q.inRange) :
    Inv (s.listening a q) where
  buffers := wf_congr hbuffers rfl rfl rfl
  discarded := hdiscarded
  stopped := fun h => absurd hfault h
  unborn := fun h => absurd (hattached.symm.trans h) nofun
  admitted := hallows
  progress := hrange
  sequenced := by
    cases q <;> simp [State.sequenced, htx] <;> cases hanswer
  listening := fun _ ha => Option.some.inj ha ▸ hexpects
  capable := hcapable

/-- Where a command waits after its exchange, and that the receive is the one its rule makes (R95, R150, R189). -/
theorem exchangeOf_next (he : exchangeOf i s = some e) :
    e.next.awaitsAnswer = true ∧ e.next.expects e.await ∧ (s.position.inRange → e.next.inRange) ∧
      ((gated i = true → s.connected = true) → s.position.allows s.session →
        e.next.allows (e.enters.getD s.session)) := by
  cases i
  case request | wakeup =>
    obtain ⟨_, rfl⟩ := atIdle_eq_some he
    exact ⟨rfl, ⟨rfl, rfl⟩, fun _ => trivial, fun _ _ => .inr rfl⟩
  case getVersion | readCnt | readSig =>
    obtain ⟨_, rfl⟩ := atIdle_eq_some he
    exact ⟨rfl, ⟨rfl, rfl⟩, fun _ => trivial, fun hgate _ => .inl (hgate rfl)⟩
  case compWriteP1 | pwdAuth =>
    obtain ⟨_, rfl⟩ := atIdle_eq_some he
    exact ⟨rfl, rfl, fun _ => trivial, fun hgate _ => hgate rfl⟩
  case fastRead x y =>
    obtain ⟨_, _, rfl⟩ := fastReadOf_eq_some he
    exact ⟨rfl, ⟨rfl, rfl⟩, fun _ => trivial, fun hgate _ => .inl (hgate rfl)⟩
  case read pg =>
    rcases readPageOf_eq_some he with ⟨_, rfl⟩ | ⟨done, hpos, rfl⟩
    · exact ⟨rfl, ⟨rfl, rfl⟩, fun _ => trivial, fun hgate _ => .inl (hgate rfl)⟩
    · exact ⟨rfl, rfl, fun hrange => hpos ▸ hrange, fun hgate _ => hgate rfl⟩
  case write pg d =>
    rcases writePageOf_eq_some he with ⟨_, rfl⟩ | ⟨r, n, hpos, rfl⟩
    · exact ⟨rfl, rfl, fun _ => trivial, fun hgate _ => hgate rfl⟩
    · exact ⟨rfl, rfl, fun hrange => hpos ▸ hrange, fun hgate _ => hgate rfl⟩
  case compWriteP2 d =>
    obtain ⟨hpos, rfl⟩ := dataFrameOf_eq_some he
    rw [hpos]
    exact ⟨rfl, rfl, fun _ => trivial, fun _ hx => hx⟩
  case selectL1 | selectL2 =>
    obtain ⟨_, _, henters, hnext, hpos⟩ := selectOf_eq_some he
    rw [henters, hnext]
    rcases hpos with ⟨l, hpos, _, hawait⟩ | ⟨l, r, hpos, _, hawait⟩ | ⟨k, ask, answers, hpos, _, hawait⟩ <;>
      rw [hpos, hawait] <;> exact ⟨rfl, rfl, id, fun _ => id⟩
  all_goals
    have hnone : none = some e := he
    cases hnone

/-- A command that goes on after its receive keeps the invariant. -/
theorem Resumed.inv {c : AckCode} {p : Option (List Byte)} (h : Resumed c p s t) (hbuffers : Memory.wf s = true)
    (hdiscarded : s.result ≠ .code .ack → s.rxlen = 0) (hfault : s.fault = none) (hattached : s.attached = true)
    (hcapable : s.capable) (hawait : s.await = none) (hallows : s.position.allows s.session)
    (hrange : s.position.inRange) : Inv t := by
  cases h
  case stops => exact inv_complete hcapable fun _ => rfl
  case mismatched => exact inv_complete hcapable fun _ => rfl
  case delivered | acknowledged | authenticated | settingsRead | settingsWritten =>
    exact inv_complete hcapable fun hne => absurd rfl hne
  case captured hc hs hu => rcases hs with rfl | rfl <;> exact inv_complete hcapable fun hne => absurd rfl hne
  case raised hc hs =>
    rcases hs with rfl | rfl
    · exact inv_raised hbuffers hdiscarded hcapable
    · exact inv_raised (wf_congr hbuffers rfl rfl rfl) hdiscarded hcapable
  case continues hc hs hq =>
    rcases hs with rfl | rfl
    · exact inv_load hbuffers hdiscarded hfault hattached hcapable hawait hq.awaitsFrame (hq.allows hallows)
        (hq.inRange hrange)
    · exact inv_load (wf_congr hbuffers rfl rfl rfl) hdiscarded hfault hattached hcapable hawait hq.awaitsFrame
        (hq.allows hallows) (hq.inRange hrange)

/-- The capabilities that ATTACH accepts are those of R57. -/
theorem create_capable {var : Variant} {tr : Transport} {m : CrcMode} (h : attachFault (some var) tr m = none) :
    (s.create var tr m).capable := by
  unfold attachFault at h
  repeat' split at h
  all_goals simp_all [State.capable]

theorem inv_create {var : Variant} {tr : Transport} {m : CrcMode} (h : attachFault (some var) tr m = none) :
    Inv (s.create var tr m) where
  buffers := create_wf var tr m
  discarded := fun hr => absurd rfl hr
  stopped := fun _ => rfl
  unborn := fun _ => rfl
  admitted := trivial
  progress := trivial
  sequenced := ⟨rfl, rfl⟩
  listening := nofun
  capable := create_capable h

/-- A frame handed over leaves everything the invariant reads but the TX traffic. -/
theorem Poised.exec_inv (hs : Poised s) (h : exec i s = .next t) : Inv t := by
  obtain ⟨hbuffers, hdiscarded, hstopped, hunborn, hadmitted, hprogress, hlistening, hcapable, htx, hnoAnswer, hwaits⟩ := hs
  have hborn : (s.attached = true ∨ s.position = .compPhase2) → s.attached = true := fun h => by
    cases hattached : s.attached with
    | true => rfl
    | false => simp [hattached, hunborn hattached] at h
  cases exec_ran h
  case gateStops => exact inv_complete hcapable fun _ => rfl
  case raised => exact inv_raised hbuffers hdiscarded hcapable
  case cut => exact inv_raised (wf_congr hbuffers rfl rfl rfl) hdiscarded hcapable
  case unaligned => exact inv_raised (wf_congr hbuffers rfl rfl rfl) hdiscarded hcapable
  case listening e hent he =>
    obtain ⟨hfault, _, hattached, hgate⟩ := hent
    obtain ⟨hanswer, hexpects, hrange, hallows⟩ := exchangeOf_next he
    exact inv_listening (wf_congr hbuffers rfl rfl rfl) hdiscarded hfault (hborn hattached) hcapable htx hanswer hexpects
      (hallows hgate hadmitted) (hrange hprogress)
  case sentAlone hent hidle _ =>
    obtain ⟨_, hawait, _, _⟩ := hent
    exact
      { buffers := wf_congr hbuffers rfl rfl rfl
        discarded := hdiscarded
        stopped := fun _ => hidle
        unborn := fun _ => hidle
        admitted := hadmitted
        progress := hprogress
        sequenced := by simp [State.sequenced, hidle, hawait, htx]
        listening := fun a ha => absurd (hawait.symm.trans ha) nofun
        capable := hcapable }
  case halted | connected | disconnected | destroyed => exact inv_complete hcapable fun hne => absurd rfl hne
  case begins hent hidle hq =>
    obtain ⟨hfault, hawait, hattached, _⟩ := hent
    exact inv_load hbuffers hdiscarded hfault (hborn hattached) hcapable hawait hq.awaitsFrame hq.allows hq.inRange
  case created hi hok => exact inv_create hok
  case notCreated => exact inv_raised (wf_congr hbuffers rfl rfl rfl) hdiscarded hcapable
  case timedOut => exact inv_complete hcapable fun _ => rfl
  case answered r a hi hr hawait hres =>
    have hrunning : s.position ≠ .idle := fun hidle =>
      absurd (hawait.symm.trans (hnoAnswer (by rw [hidle]; rfl))) nofun
    have hfault : s.fault = none := by_contra fun hf => hrunning (hstopped hf)
    have hattached : s.attached = true := by
      cases ha : s.attached with
      | true => rfl
      | false => exact absurd (hunborn ha) hrunning
    exact hres.inv (wf_congr hbuffers rfl rfl rfl) hdiscarded hfault hattached hcapable rfl hadmitted hprogress

end Sys2Proof.Machine
end


section
/-! A step keeps the engine's invariant (R25, R250): what `fetch` finds is poised for its instruction. -/

namespace Sys2Proof.Machine

open Sys2Proof.Claims

variable {s t : State} {i : Instr}

/-- While a receive is outstanding a command waits for it, and no frame is in the TX buffer (R42). -/
theorem Inv.of_outstanding {a : Await} (h : Inv s) (ha : s.await = some a) :
    s.txbuf = none ∧ s.position.awaitsAnswer = true := by
  have hsequenced := h.sequenced
  unfold State.sequenced at hsequenced
  cases hpos : s.position <;> simp [hpos, ha, Position.awaitsAnswer] at hsequenced ⊢ <;> exact hsequenced

/-- A frame stands in the TX buffer only where the running command's next frame is due. -/
theorem Inv.of_frame {f : Frame} (h : Inv s) (hf : s.txbuf = some f) : s.position.awaitsFrame = true := by
  have hsequenced := h.sequenced
  unfold State.sequenced at hsequenced
  cases hpos : s.position <;> simp [hpos, hf, Position.awaitsFrame] at hsequenced ⊢

/-- With neither a receive outstanding nor a frame to send no command runs. -/
theorem Inv.idle_of_quiet (h : Inv s) (hawait : s.await = none) (htx : s.txbuf = none) : s.position = .idle := by
  have hsequenced := h.sequenced
  unfold State.sequenced at hsequenced
  cases hpos : s.position <;> simp [hpos, hawait, htx] at hsequenced ⊢

theorem Inv.poised_afterAnswer {a : Await} (h : Inv s) (ha : s.await = some a) : Poised s.afterAnswer :=
  have ⟨htx, hanswer⟩ := h.of_outstanding ha
  { buffers := wf_congr h.buffers rfl rfl rfl
    discarded := h.discarded
    stopped := h.stopped
    unborn := h.unborn
    admitted := h.admitted
    progress := h.progress
    listening := h.listening
    capable := h.capable
    due := ⟨htx, fun hno => absurd (hanswer.symm.trans hno) nofun, fun _ _ => by simp [ha]⟩ }

theorem Inv.poised_unload {f : Frame} (h : Inv s) (hawait : s.await = none) (hf : s.txbuf = some f) : Poised s.unload :=
  { buffers := unload_wf h.buffers
    discarded := h.discarded
    stopped := h.stopped
    unborn := h.unborn
    admitted := h.admitted
    progress := h.progress
    listening := h.listening
    capable := h.capable
    due := ⟨rfl, fun _ => hawait, fun _ hno => absurd ((h.of_frame hf).symm.trans hno) nofun⟩ }

theorem Inv.poised_takeCmd (h : Inv s) (hawait : s.await = none) (htx : s.txbuf = none) : Poised s.takeCmd :=
  { buffers := wf_congr h.buffers rfl rfl rfl
    discarded := h.discarded
    stopped := h.stopped
    unborn := h.unborn
    admitted := h.admitted
    progress := h.progress
    listening := h.listening
    capable := h.capable
    due := ⟨htx, fun _ => hawait, fun hne _ => absurd (h.idle_of_quiet hawait htx) hne⟩ }

/-- Everything a step can do: it waits, runs an instruction, or faults on a missing operand or a malformed answer; only a
command is taken from the port, and only where no command runs. -/
inductive Stepped (s : State) : State → Prop
  | waits : Stepped s s
  | answers {t : State} (i : Instr) {a : Await} (ha : s.await = some a) (h : exec i s.afterAnswer = .next t) : Stepped s t
  | sends {t : State} (i : Instr) {f : Frame} (hawait : s.await = none) (hf : s.txbuf = some f)
      (h : exec i s.unload = .next t) : Stepped s t
  | takes {t : State} (i : Instr) (hawait : s.await = none) (htx : s.txbuf = none) (h : exec i s.takeCmd = .next t) :
      Stepped s t
  | malformed {a : Await} (k : FaultKind) (ha : s.await = some a) : Stepped s (s.afterAnswer.raised k)
  | lacksOperand {t : State} (hawait : s.await = none) (htx : s.txbuf = none) (h : absentOperand s.takeCmd = .next t) :
      Stepped s t

theorem fetchAnswer_cases (s : State) : (∃ i, fetchAnswer s = .run i s.afterAnswer) ∨
    (∃ k, fetchAnswer s = .raised k s.afterAnswer) ∨ ∃ f, fetchAnswer s = .stop f := by
  unfold fetchAnswer
  split
  case h_1 => exact .inl ⟨_, rfl⟩
  case h_2 | h_3 => exact .inr (.inl ⟨_, rfl⟩)
  case h_4 => exact .inr (.inr ⟨_, rfl⟩)

theorem fetchFrame_cases (f : Frame) (s : State) :
    (∃ i, fetchFrame f s = .run i s.unload) ∨ ∃ g, fetchFrame f s = .stop g := by
  unfold fetchFrame
  split
  case h_1 => exact .inl ⟨_, rfl⟩
  case h_2 => exact .inr ⟨_, rfl⟩

theorem fetchCommand_cases (s : State) : fetchCommand s = .waiting ∨ (∃ i, fetchCommand s = .run i s.takeCmd) ∨
    fetchCommand s = .absent s.takeCmd ∨ ∃ r, fetchCommand s = .refused r := by
  unfold fetchCommand
  split
  case h_1 => exact .inl rfl
  case h_2 =>
    split
    case h_1 => exact .inr (.inl ⟨_, rfl⟩)
    case h_2 => exact .inr (.inr (.inl rfl))
    case h_3 => exact .inr (.inr (.inr ⟨_, rfl⟩))

theorem step_stepped (h : step s = .next t) : Stepped s t := by
  unfold step fetch at h
  cases hawait : s.await with
  | some a =>
    rcases fetchAnswer_cases s with ⟨i, hf⟩ | ⟨k, hf⟩ | ⟨f, hf⟩ <;> simp only [hawait, hf] at h
    · exact .answers i hawait h
    · cases h
      exact .malformed k hawait
    · cases h
  | none =>
    cases htx : s.txbuf with
    | some f =>
      rcases fetchFrame_cases f s with ⟨i, hf⟩ | ⟨g, hf⟩ <;> simp only [hawait, htx, hf] at h
      · exact .sends i hawait htx h
      · cases h
    | none =>
      rcases fetchCommand_cases s with hf | ⟨i, hf⟩ | hf | ⟨r, hf⟩ <;> simp only [hawait, htx, hf] at h
      · cases h
        exact .waits
      · exact .takes i hawait htx h
      · exact .lacksOperand hawait htx h
      · cases h

/-- A command without its operand is stopped by the gate or by its fault (R190, D33). -/
theorem Poised.absentOperand_inv (hs : Poised s) (h : absentOperand s = .next t) : Inv t := by
  obtain ⟨_, _, _, ⟨_, _, rfl⟩ | ⟨_, hb⟩⟩ := accept_next h
  · exact inv_complete hs.capable fun _ => rfl
  · cases hb
    exact inv_raised hs.buffers hs.discarded hs.capable

/-- Settles O17: the state that a step hands to `exec` is poised, and from there every end keeps the invariant. -/
theorem stepKeepsInvariant : Obligations.StepKeepsInvariant := by
  intro s t hs h
  cases step_stepped h
  case waits => exact hs
  case answers i a ha h => exact (hs.poised_afterAnswer ha).exec_inv h
  case sends i f hawait hf h => exact (hs.poised_unload hawait hf).exec_inv h
  case takes i hawait htx h => exact (hs.poised_takeCmd hawait htx).exec_inv h
  case malformed a k ha =>
    have hp := hs.poised_afterAnswer ha
    exact inv_raised hp.buffers hp.discarded hp.capable
  case lacksOperand hawait htx h => exact (hs.poised_takeCmd hawait htx).absentOperand_inv h

end Sys2Proof.Machine
end

section
/-! What an instruction writes and what it leaves as it was, read off `Ran` (R21 to R36, R124, R160, R250). -/

namespace Sys2Proof.Machine

open Sys2Proof.Claims

variable {s s' t : State} {i : Instr} {c : AckCode} {p : Option (List Byte)}

/-- The fields that no command writes: the port, the open parameters, and what ATTACH has set (R21, R22). -/
structure SameSession (s t : State) : Prop where
  cmd : t.cmd = s.cmd
  params : t.params = s.params
  variant : t.variant = s.variant
  transport : t.transport = s.transport
  crcMode : t.crcMode = s.crcMode
  attached : t.attached = s.attached

theorem Resumed.sameSession (h : Resumed c p s t) : SameSession s t := by
  cases h
  case stops | delivered | acknowledged | authenticated | mismatched | settingsRead | settingsWritten =>
    constructor <;> simp
  case raised hc hs | continues hc hs hq | captured hc hs hu => rcases hs with rfl | rfl <;> constructor <;> simp

theorem exec_sameSession (h : exec i s = .next t) : SameSession s t ∨ ∃ v tr m, i = .attach v tr m := by
  cases exec_ran h
  case created hi _ => exact .inr ⟨_, _, _, hi⟩
  case answered hres =>
    obtain ⟨hcmd, hparams, hvariant, htransport, hmode, hattached⟩ := hres.sameSession
    exact .inl ⟨hcmd, hparams, hvariant, htransport, hmode, hattached⟩
  all_goals
    refine .inl ?_
    constructor <;> simp

/-- No instruction writes the command port or the open parameters. -/
theorem exec_cmd_params (h : exec i s = .next t) : t.cmd = s.cmd ∧ t.params = s.params := by
  rcases exec_sameSession h with hsame | ⟨v, tr, m, rfl⟩
  · exact ⟨hsame.cmd, hsame.params⟩
  · cases exec_ran h
    case answered hi _ _ _ => cases hi
    all_goals simp

theorem Resumed.uid (h : Resumed c p s t) :
    t.uid = s.uid ∨ (c = .ack ∧ Captures p s t.uid ∧ t.session = .selected ∧ t.result = .code .ack) := by
  cases h
  case stops | delivered | acknowledged | authenticated | mismatched | settingsRead | settingsWritten => exact .inl rfl
  case raised hc hs | continues hc hs hq => rcases hs with rfl | rfl <;> exact .inl (by simp)
  case captured hc hs hu => exact .inr ⟨hc, hu, rfl, rfl⟩

/-- SETTINGS is written by the last page of the settings commands (R220, R224). -/
theorem Resumed.settings (h : Resumed c p s t) : t.settings = s.settings ∨
    (c = .ack ∧ ∃ p0 p1 p2 page rest, s.position = .readSettings [p0, p1, p2] ∧ p = some (page.toList ++ rest) ∧
      t.settings = unpack s.params.codec ⟨p0, p1, p2, page⟩) ∨
    (c = .ack ∧ ∃ n, s.position = .writeSettings t.settings n ∧ 3 ≤ n) := by
  cases h
  case stops | delivered | acknowledged | authenticated | mismatched => exact .inl rfl
  case raised hc hs | continues hc hs hq | captured hc hs hu => rcases hs with rfl | rfl <;> exact .inl (by simp)
  case settingsRead hc hpos hp => exact .inr (.inl ⟨hc, _, _, _, _, _, hpos, hp, rfl⟩)
  case settingsWritten hc hpos hn => exact .inr (.inr ⟨hc, _, hpos, hn⟩)

/-- STATE changes at the end of CONNECT and of PWD_AUTH alone (R150, R205, R160). -/
theorem Resumed.session (h : Resumed c p s t) : t.session = s.session ∨
    (c = .ack ∧ Captures p s t.uid ∧ t.session = .selected ∧ t.result = .code .ack) ∨
    (c = .ack ∧ s.position = .pwdAuth ∧ p = some s.settings.pack.toList ∧ t.session = .authenticated ∧
      t.rxbuf = s.settings.pack.toList ∧ t.result = .code .ack) ∨
    (s.position = .pwdAuth ∧ s.session = .authenticated ∧ t.session = .selected ∧ t.result ≠ .code .ack) := by
  cases h
  case delivered | acknowledged | settingsRead | settingsWritten => exact .inl rfl
  case raised hc hs | continues hc hs hq => rcases hs with rfl | rfl <;> exact .inl (by simp)
  case captured hc hs hu => exact .inr (.inl ⟨hc, hu, rfl, rfl⟩)
  case authenticated hc hpos hp => exact .inr (.inr (.inl ⟨hc, hpos, hp, rfl, rfl, rfl⟩))
  case stops hc =>
    rcases s.sessionAfterNak_cases with hsame | ⟨hpos, hx, hdrops⟩
    · exact .inl hsame
    · exact .inr (.inr (.inr ⟨hpos, hx, hdrops, fun hr => hc (Result.code.inj hr)⟩))
  case mismatched hc hpos =>
    rcases s.sessionAfterNak_cases with hsame | ⟨_, hx, hdrops⟩
    · exact .inl hsame
    · exact .inr (.inr (.inr ⟨hpos, hx, hdrops, nofun⟩))

/-- The answer with which a command goes on is the ACK row, or the PAYLOAD row on a payload receive (R120). -/
theorem row_of_ack {r : Response} {a : Await} (hi : responseOf i = some r) (hc : (rxFrame s a r).code = .ack) :
    (i = .ack ∧ (rxFrame s a r).payload = none) ∨
      (∃ b ok q, i = .payload b ok ∧ (rxFrame s a r).payload = some q) ∧ a.kind = .payload := by
  rcases rxFrame_ack hc with ⟨rfl, hp⟩ | ⟨b, ok, q, rfl, hp, hkind⟩
  · exact .inl ⟨eq_ack_of_responseOf hi, hp⟩
  · exact .inr ⟨⟨b, ok, q, eq_payload_of_responseOf hi, hp⟩, hkind⟩

/-- A CONNECT that is complete after a receive has been ended by one of the rows that `connectEnds` names. -/
theorem Captures.connectEnds {r : Response} {a : Await} {u : Uid} (hi : responseOf i = some r)
    (hc : (rxFrame s.disarm a r).code = .ack) (hu : Captures (rxFrame s.disarm a r).payload s.disarm u) :
    connectEnds i s u := by
  have hrow := row_of_ack hi hc
  rcases hu with ⟨part, q, sak, hpos, hp, rfl⟩ | ⟨k, ask, answers, hpos, hdone⟩
  · rcases hrow with ⟨_, hnone⟩ | ⟨⟨b, ok, _, rfl, _⟩, _⟩
    · rw [hnone] at hp
      cases hp
    · exact .inl ⟨b, ok, part, q, rfl, hpos, rfl⟩
  · refine .inr (.inr ⟨k, ask, answers, _, hpos, ?_, hdone⟩)
    rcases hrow with hack | ⟨hpayload, _⟩
    · exact .inl hack
    · exact .inr hpayload

theorem connectEnds_of_connected {k : Nat} {u : Uid} (hi : i = .connect) (hproc : s.params.selectProc = .custom k)
    (hdone : Config.customSelect k [] = .done u) : connectEnds i s u := .inr (.inl ⟨hi, k, hproc, hdone⟩)

/-- UID has three writers (R24, R150). -/
theorem exec_uid (h : exec i s = .next t) :
    t.uid = s.uid ∨ (∃ v tr m, i = .attach v tr m) ∨ i = .destroy ∨ connectEnds i s t.uid := by
  cases exec_ran h
  case created hi _ => exact .inr (.inl ⟨_, _, _, hi⟩)
  case destroyed _ hi => exact .inr (.inr (.inl hi))
  case connected _ hi _ hproc hdone => exact .inr (.inr (.inr (connectEnds_of_connected hi hproc hdone)))
  case listening => exact .inl (by simp)
  case answered hi _ _ hres =>
    rcases hres.uid with hsame | ⟨hc, hu, _⟩
    · exact .inl hsame
    · exact .inr (.inr (.inr (hu.connectEnds hi hc)))
  all_goals exact .inl rfl

/-- SETTINGS has four (R33, R220, R224); under the invariant the page counts of the settings commands stay in range, and
WRITE_SETTINGS waits for acknowledgements. -/
theorem exec_settings (hinv : Inv s) (h : exec i s = .next t) :
    t.settings = s.settings ∨ (∃ v tr m, i = .attach v tr m) ∨ i = .destroy ∨
      (∃ b ok p0 p1 p2 p3, i = .payload b ok ∧ s.position = .readSettings [p0, p1, p2] ∧
        t.settings = unpack s.params.codec ⟨p0, p1, p2, p3⟩) ∨
      (∃ r, i = .ack ∧ s.position = .writeSettings r 3 ∧ t.settings = r) := by
  cases exec_ran h
  case created hi _ => exact .inr (.inl ⟨_, _, _, hi⟩)
  case destroyed _ hi => exact .inr (.inr (.inl hi))
  case listening => exact .inl (by simp)
  case answered r a hi _ hawait hres =>
    rcases hres.settings with hsame | ⟨hc, p0, p1, p2, page, rest, hpos, hp, hset⟩ | ⟨hc, n, hpos, hn⟩
    · exact .inl hsame
    · rcases row_of_ack hi hc with ⟨_, hnone⟩ | ⟨⟨b, ok, _, rfl, _⟩, _⟩
      · rw [hnone] at hp
        cases hp
      · exact .inr (.inr (.inr (.inl ⟨b, ok, p0, p1, p2, page, rfl, hpos, hset⟩)))
    · have hwaits : s.position = .writeSettings t.settings n := hpos
      have hexpects : a = awaitAck := by
        have hexp := hinv.listening a hawait
        rwa [hwaits] at hexp
      have hrange : n ≤ 3 := by
        have hprogress := hinv.progress
        rwa [hwaits] at hprogress
      obtain rfl : n = 3 := Nat.le_antisymm hrange hn
      rcases row_of_ack hi hc with ⟨rfl, _⟩ | ⟨_, hkind⟩
      · exact .inr (.inr (.inr (.inr ⟨_, rfl, hwaits, rfl⟩)))
      · rw [hexpects] at hkind
        cases hkind
  all_goals exact .inl rfl

/-- Settles O22. -/
theorem registersHaveTheirWriters : Obligations.RegistersHaveTheirWriters := by
  intro i s t hinv h
  obtain ⟨hcmd, hparams⟩ := exec_cmd_params h
  refine ⟨hcmd, hparams, ?_, exec_uid h, exec_settings hinv h⟩
  rcases exec_sameSession h with hsame | hattach
  · exact .inl ⟨hsame.variant, hsame.transport, hsame.crcMode, hsame.attached⟩
  · exact .inr hattach

theorem State.connected_iff (s : State) : s.connected = true ↔ s.session = .selected ∨ s.session = .authenticated := by
  unfold State.connected
  cases s.session <;> simp [Session.isConnected]

theorem State.awake_iff (s : State) :
    s.awake = true ↔ s.session = .requested ∨ s.session = .selected ∨ s.session = .authenticated := by
  unfold State.awake
  cases s.session <;> simp [Session.isConnected]

/-- Of the exchanges, those of REQUEST and WAKEUP alone write STATE (R142, R144). -/
theorem exchangeOf_enters {e : Exchange} (he : exchangeOf i s = some e) :
    e.enters = none ∨ ((i = .request ∨ i = .wakeup) ∧ e.enters = some .requested) := by
  cases i
  case request =>
    obtain ⟨_, rfl⟩ := atIdle_eq_some he
    exact .inr ⟨.inl rfl, rfl⟩
  case wakeup =>
    obtain ⟨_, rfl⟩ := atIdle_eq_some he
    exact .inr ⟨.inr rfl, rfl⟩
  case getVersion | compWriteP1 | readCnt | pwdAuth | readSig =>
    obtain ⟨_, rfl⟩ := atIdle_eq_some he
    exact .inl rfl
  case fastRead =>
    obtain ⟨_, _, rfl⟩ := fastReadOf_eq_some he
    exact .inl rfl
  case read => rcases readPageOf_eq_some he with ⟨_, rfl⟩ | ⟨_, _, rfl⟩ <;> exact .inl rfl
  case write => rcases writePageOf_eq_some he with ⟨_, rfl⟩ | ⟨_, _, _, rfl⟩ <;> exact .inl rfl
  case compWriteP2 =>
    obtain ⟨_, rfl⟩ := dataFrameOf_eq_some he
    exact .inl rfl
  case selectL1 | selectL2 =>
    obtain ⟨_, _, henters, _⟩ := selectOf_eq_some he
    exact .inl henters
  all_goals
    have hnone : none = some e := he
    cases hnone

/-- A CONNECT that a receive completes has run in Requested (R150). -/
theorem Captures.requested {u : Uid} (hallows : s.position.allows s.session) (h : Captures p s u) :
    s.session = .requested := by
  rcases h with ⟨_, _, _, hpos, _⟩ | ⟨_, _, _, hpos, _⟩ <;> rwa [hpos] at hallows

/-- The transition table of R160. -/
theorem exec_session (hinv : Inv s) (h : exec i s = .next t) :
    t.session = s.session ∨
    ((∃ v tr m, i = .attach v tr m) ∧ t.session = .idle) ∨
    ((i = .request ∨ i = .wakeup) ∧ t.session = .requested) ∨
    (connectEnds i s t.uid ∧ s.session = .requested ∧ t.session = .selected ∧ t.result = .code .ack) ∨
    (∃ b ok, i = .payload b ok ∧ s.position = .pwdAuth ∧ s.connected = true ∧ t.session = .authenticated ∧
      t.rxbuf = s.settings.pack.toList ∧ t.result = .code .ack) ∨
    (s.position = .pwdAuth ∧ isResponse i = true ∧ i ≠ .timeout ∧ s.session = .authenticated ∧
      t.session = .selected ∧ t.result ≠ .code .ack) ∨
    (i = .halt ∧ s.connected = true ∧ t.session = .halted) ∨
    (i = .timeout ∧ t.session = .disconnected) ∨
    (i = .disconnect ∧ t.session = .disconnected) ∨
    (i = .destroy ∧ t.session = .idle) := by
  cases exec_ran h
  case gateStops | raised | cut | unaligned | sentAlone | begins | notCreated => exact .inl rfl
  case created hi _ => exact .inr (.inl ⟨⟨_, _, _, hi⟩, rfl⟩)
  case listening e _ he =>
    rcases exchangeOf_enters he with henters | ⟨hi, henters⟩
    · exact .inl (by simp [henters])
    · exact .inr (.inr (.inl ⟨hi, by simp [henters]⟩))
  case connected _ hi hx hproc hdone =>
    exact .inr (.inr (.inr (.inl ⟨connectEnds_of_connected hi hproc hdone, hx, rfl, rfl⟩)))
  case halted hent hi =>
    obtain ⟨_, _, _, hgate⟩ := hent
    subst hi
    exact .inr (.inr (.inr (.inr (.inr (.inr (.inl ⟨rfl, hgate rfl, rfl⟩))))))
  case timedOut hi => exact .inr (.inr (.inr (.inr (.inr (.inr (.inr (.inl ⟨hi, rfl⟩)))))))
  case disconnected _ hi => exact .inr (.inr (.inr (.inr (.inr (.inr (.inr (.inr (.inl ⟨hi, rfl⟩))))))))
  case destroyed _ hi => exact .inr (.inr (.inr (.inr (.inr (.inr (.inr (.inr (.inr ⟨hi, rfl⟩))))))))
  case answered r a hi hr _ hres =>
    have hallows : s.position.allows s.session := hinv.admitted
    rcases hres.session with hsame | ⟨hc, hu, hsel, hresult⟩ | ⟨hc, hpos, hp, hauth, hbuf, hresult⟩ |
        ⟨hpos, hx, hsel, hresult⟩
    · exact .inl hsame
    · exact .inr (.inr (.inr (.inl ⟨hu.connectEnds hi hc, Captures.requested hallows hu, hsel, hresult⟩)))
    · have hconnected : s.connected = true := by
        have hpwd : s.position = .pwdAuth := hpos
        rwa [hpwd] at hallows
      rcases row_of_ack hi hc with ⟨_, hnone⟩ | ⟨⟨b, ok, _, rfl, _⟩, _⟩
      · rw [hnone] at hp
        cases hp
      · exact .inr (.inr (.inr (.inr (.inl ⟨b, ok, rfl, hpos, hconnected, hauth, hbuf, hresult⟩))))
    · have hne : i ≠ .timeout := fun hi' => by
        subst hi'
        exact hr (Option.some.inj hi).symm
      exact .inr (.inr (.inr (.inr (.inr (.inl ⟨hpos, isResponse_of_responseOf hi, hne, hx, hsel, hresult⟩)))))

/-- Settles O23. -/
theorem stateTransitionTable : Obligations.StateTransitionTable :=
  ⟨fun s => ⟨s.connected_iff, s.awake_iff, decide_eq_true_iff⟩, fun _ _ _ hinv h => exec_session hinv h⟩

end Sys2Proof.Machine
end

section
/-! Faults, results and the history, read off `Ran` (R68, R76, R124, R250). -/

namespace Sys2Proof.Machine

open Sys2Proof.Claims

variable {s s' t : State} {i : Instr} {c : AckCode} {p : Option (List Byte)}

/-- The command has stopped in a state that differs from `s` in FAULT, the sequencing and the history alone, and the history
holds no new result (R250, D20). -/
def StoppedFrom (s t : State) : Prop :=
  t = { s with
    fault := t.fault, position := .idle, await := none, txbuf := none, env := t.env, events := t.events } ∧
    ∃ new, t.events = new ++ s.events ∧ ∀ r, .result r ∉ new

/-- The transport calls are no results. -/
theorem txCall_ne_result (b : List Byte) (n : Nat) (crc : Bool) (r : Result) : s.txCall b n crc ≠ .result r := by
  unfold State.txCall
  repeat' split
  all_goals exact nofun

theorem raised_stoppedFrom (k : FaultKind) : StoppedFrom s (s.raised k) := ⟨rfl, [], rfl, nofun⟩

theorem raised_transmitted_stoppedFrom (k : FaultKind) (b : List Byte) (n : Nat) (crc : Bool) :
    StoppedFrom s ((s.transmitted b n crc).raised k) :=
  ⟨rfl, [s.txCall b n crc], rfl, fun r hr => txCall_ne_result b n crc r (List.mem_singleton.mp hr).symm⟩

theorem Heard.raised_stoppedFrom (hs : Heard s.disarm s') (k : FaultKind) : StoppedFrom s (s'.raised k) := by
  rcases hs with rfl | rfl
  · exact ⟨rfl, [], rfl, nofun⟩
  · exact ⟨rfl, [.probe], rfl, nofun⟩

/-- Only `raise` writes FAULT after a receive. -/
theorem Resumed.fault (h : Resumed c p s t) : t.fault = s.fault ∨ ∃ s' k, Heard s s' ∧ t = s'.raised k := by
  cases h
  case stops | delivered | acknowledged | authenticated | mismatched | settingsRead | settingsWritten =>
    exact .inl (by simp)
  case continues hc hs hq | captured hc hs hu => rcases hs with rfl | rfl <;> exact .inl (by simp)
  case raised k hc hs => exact .inr ⟨_, k, hs, rfl⟩

theorem exec_raises (hfault : s.fault = none) (h : exec i s = .next t) (hraised : t.fault ≠ none) : StoppedFrom s t := by
  cases exec_ran h
  case raised => exact raised_stoppedFrom _
  case cut => exact raised_transmitted_stoppedFrom _ _ _ _
  case unaligned => exact raised_transmitted_stoppedFrom _ _ _ _
  case notCreated => exact ⟨rfl, [], rfl, nofun⟩
  case answered hres =>
    rcases hres.fault with hsame | ⟨s', k, hs, rfl⟩
    · exact absurd (hsame.trans hfault) hraised
    · exact hs.raised_stoppedFrom k
  all_goals simp [hfault] at hraised

/-- The first fault is kept (R250). -/
theorem State.raised_fault_of_some {k : FaultKind} (hfault : s.fault = some k) (k' : FaultKind) :
    (s.raised k').fault = some k := by
  simp [State.raised, hfault]

theorem exec_keeps_fault {k : FaultKind} (hfault : s.fault = some k) (h : exec i s = .next t) :
    t.fault = some k ∨ ∃ v tr m, i = .attach v tr m := by
  have hno : ¬ entered i s := fun hent => absurd (hfault.symm.trans hent.1) nofun
  cases exec_ran h
  case created hi _ | notCreated hi => exact .inr ⟨_, _, _, hi⟩
  case gateStops hnone _ => exact absurd (hfault.symm.trans hnone) nofun
  case timedOut => exact .inl hfault
  case answered hres =>
    refine .inl ?_
    rcases hres.fault with hsame | ⟨s', k', hs, rfl⟩
    · exact hsame.trans hfault
    · exact State.raised_fault_of_some (by rcases hs with rfl | rfl <;> simp [hfault]) k'
  all_goals exact absurd ‹entered i s› hno

/-- Settles O24. -/
theorem faultsStopTheCommand : Obligations.FaultsStopTheCommand :=
  ⟨fun _ _ _ hfault h hraised => exec_raises hfault h hraised, fun _ _ _ _ hfault h => exec_keeps_fault hfault h⟩

/-- A running command's step takes nothing from the port. -/
theorem Stepped.cmd_of_running (hinv : Inv s) (hrunning : s.position ≠ .idle) (h : Stepped s t) : t.cmd = s.cmd := by
  cases h
  case waits => rfl
  case answers h => exact (exec_cmd_params h).1
  case sends h => exact (exec_cmd_params h).1
  case takes hawait htx _ => exact absurd (hinv.idle_of_quiet hawait htx) hrunning
  case malformed => rfl
  case lacksOperand hawait htx _ => exact absurd (hinv.idle_of_quiet hawait htx) hrunning

/-- Settles O27. -/
theorem runningCommandIsNotDisturbed : Obligations.RunningCommandIsNotDisturbed :=
  ⟨fun _ _ hinv hrunning h => (step_stepped h).cmd_of_running hinv hrunning,
    fun _ _ hi hfault hattached hawait => exec_of_outstanding hi hfault hattached hawait,
    fun _ _ _ _ hpos => exec_attach_of_running hpos⟩

/-- A command that the gate lets through writes RESULT with ACK alone. -/
theorem exec_result_of_ungated (hi : ungated i = true ∨ ∃ v tr m, i = .attach v tr m) (h : exec i s = .next t) :
    t.result = s.result ∨ t.result = .code .ack := by
  have hresponse : responseOf i = none := by
    cases i
    case request | wakeup | attach | disconnect | destroy | connect => rfl
    all_goals simp [ungated] at hi
  cases exec_ran h
  case gateStops hgated _ _ => cases i <;> simp [gated, ungated] at hi hgated
  case timedOut hi' =>
    subst hi'
    cases hresponse
  case answered hi' _ _ _ => cases hresponse.symm.trans hi'
  case halted | connected | disconnected | destroyed | created => exact .inr rfl
  all_goals exact .inl (by simp)

/-- Settles O28. -/
theorem gateKeepsUnconnectedSilent : Obligations.GateKeepsUnconnectedSilent :=
  ⟨fun _ _ hi hs hc => hs.exec_gated hc hi, fun _ _ _ hi h => exec_result_of_ungated hi h⟩

theorem Resumed.authMismatch (h : Resumed c p s t) (hresult : t.result = .authMismatch) :
    s.result = .authMismatch ∨ s.position = .pwdAuth := by
  cases h
  case mismatched hc hpos => exact .inr hpos
  case raised hc hs | continues hc hs hq => rcases hs with rfl | rfl <;> exact .inl (by simpa using hresult)
  all_goals simp at hresult

/-- AUTH_MISMATCH is a result of PWD_AUTH alone (R209). -/
theorem exec_authMismatch (h : exec i s = .next t) (hresult : t.result = .authMismatch) :
    s.result = .authMismatch ∨ s.position = .pwdAuth := by
  cases exec_ran h
  case raised | cut | unaligned | listening | sentAlone | begins | notCreated => exact .inl (by simpa using hresult)
  case answered hres => exact hres.authMismatch hresult
  all_goals simp at hresult

/-- Settles O54. -/
theorem mismatchIsNotSuccess : Obligations.MismatchIsNotSuccess := by
  refine ⟨nofun, fun s w hawait hkind hcrc hpos => ?_, fun i s t h hresult => exec_authMismatch h hresult⟩
  have hmismatch : ∀ {i p}, exec i s = resume .ack p s.disarm → p ≠ some s.settings.pack.toList →
      ∃ t, exec i s = .next t ∧ t.result = .authMismatch ∧ t.rxlen = 0 ∧ t.authenticated = false := fun hexec hp =>
    ⟨_, hexec.trans (resume_pwdAuth_mismatch hpos hp), rfl, rfl,
      decide_eq_false (State.sessionAfterNak_ne_authenticated hpos)⟩
  refine ⟨fun b ok hmode hb => hmismatch (respond_delivers hawait hkind hcrc (.inl ⟨hmode, rfl⟩)) ?_,
    fun b hmode hb => hmismatch (respond_delivers hawait hkind hcrc (.inr ⟨hmode, rfl, rfl⟩)) ?_,
    hmismatch (respond_short hawait) nofun⟩
  · exact fun h => hb (Option.some.inj h)
  · exact fun h => hb (Option.some.inj h)

/-- The instruction has made at most one transmit call and then at most one receive call (R68). -/
def OneExchange (s t : State) : Prop :=
  ∃ new, t.events = new ++ s.events ∧ (new.filterMap frameOf).length ≤ 1 ∧ (new.filter isReceive).length ≤ 1 ∧
    ∀ e ∈ new, isReceive e = true → ∃ tx, frameOf tx ≠ none ∧ new = [e, tx]

theorem frameOf_txCall_ne_none (b : List Byte) (n : Nat) (crc : Bool) : frameOf (s.txCall b n crc) ≠ none := by
  unfold State.txCall
  repeat' split
  all_goals exact nofun

theorem isReceive_txCall (b : List Byte) (n : Nat) (crc : Bool) : isReceive (s.txCall b n crc) = false := by
  unfold State.txCall
  repeat' split
  all_goals rfl

theorem isReceive_rxCall (a : Await) : isReceive (s.rxCall a) = true := by
  unfold State.rxCall
  repeat' split
  all_goals rfl

/-- Events that are no transport calls. -/
def isQuiet (e : Event) : Prop := frameOf e = none ∧ isReceive e = false

theorem oneExchange_of_quiet {new : List Event} (hnew : t.events = new ++ s.events) (hquiet : ∀ e ∈ new, isQuiet e) :
    OneExchange s t := by
  have hframes : new.filterMap frameOf = [] := List.filterMap_eq_nil_iff.mpr fun e he => (hquiet e he).1
  have hreceives : new.filter isReceive = [] :=
    List.filter_eq_nil_iff.mpr fun e he => by simp [(hquiet e he).2]
  exact ⟨new, hnew, by simp [hframes], by simp [hreceives], fun e he hr =>
    absurd (hr.symm.trans (hquiet e he).2) nofun⟩

/-- A frame was sent, and what followed it is no transport call. -/
theorem oneExchange_of_sent {new : List Event} {b : List Byte} {n : Nat} {crc : Bool}
    (hnew : t.events = new ++ s.txCall b n crc :: s.events) (hquiet : ∀ e ∈ new, isQuiet e) : OneExchange s t := by
  have hframes : new.filterMap frameOf = [] := List.filterMap_eq_nil_iff.mpr fun e he => (hquiet e he).1
  have hreceives : new.filter isReceive = [] :=
    List.filter_eq_nil_iff.mpr fun e he => by simp [(hquiet e he).2]
  refine ⟨new ++ [s.txCall b n crc], by simp [hnew], ?_, ?_, fun e he hr => ?_⟩
  · rw [List.filterMap_append, hframes]
    exact List.length_filterMap_le frameOf [s.txCall b n crc]
  · simp [hreceives, isReceive_txCall]
  · rcases List.mem_append.mp he with hm | hm
    · exact absurd (hr.symm.trans (hquiet e hm).2) nofun
    · obtain rfl := List.mem_singleton.mp hm
      exact absurd (hr.symm.trans (isReceive_txCall b n crc)) nofun

/-- A frame was sent, and then a receive called. -/
theorem oneExchange_of_listening {b : List Byte} {n : Nat} {crc : Bool} {u : State} {a : Await}
    (hnew : t.events = u.rxCall a :: s.txCall b n crc :: s.events) : OneExchange s t := by
  refine ⟨[u.rxCall a, s.txCall b n crc], hnew, ?_, ?_, fun e he hr => ?_⟩
  · rw [List.filterMap_cons_none (frameOf_rxCall a)]
    exact List.length_filterMap_le frameOf [s.txCall b n crc]
  · simp [isReceive_rxCall, isReceive_txCall]
  · rcases List.mem_cons.mp he with rfl | hm
    · exact ⟨_, frameOf_txCall_ne_none b n crc, rfl⟩
    · obtain rfl := List.mem_singleton.mp hm
      exact absurd (hr.symm.trans (isReceive_txCall b n crc)) nofun

theorem Heard.quiet (hs : Heard s s') : ∃ new, s'.events = new ++ s.events ∧ ∀ e ∈ new, isQuiet e := by
  rcases hs with rfl | rfl
  · exact ⟨[], rfl, nofun⟩
  · exact ⟨[.probe], rfl, fun e he => List.mem_singleton.mp he ▸ ⟨rfl, rfl⟩⟩

/-- A result after events that are no transport calls. -/
theorem quiet_result {new : List Event} (r : Result) (hquiet : ∀ e ∈ new, isQuiet e) :
    ∀ e ∈ .result r :: new, isQuiet e := fun e he => by
  rcases List.mem_cons.mp he with rfl | hm
  · exact ⟨rfl, rfl⟩
  · exact hquiet e hm

/-- After a receive no transport call is made; the next frame waits in the TX buffer. -/
theorem Resumed.quiet (h : Resumed c p s t) : ∃ new, t.events = new ++ s.events ∧ ∀ e ∈ new, isQuiet e := by
  cases h
  case stops | delivered | acknowledged | authenticated | mismatched | settingsRead | settingsWritten =>
    exact ⟨[_], rfl, quiet_result _ nofun⟩
  case raised hc hs | continues hc hs hq => exact hs.quiet
  case captured hc hs hu =>
    obtain ⟨new, hnew, hquiet⟩ := hs.quiet
    exact ⟨.result (.code .ack) :: new, congrArg (_ :: ·) hnew, quiet_result _ hquiet⟩

/-- Settles O29. -/
theorem oneExchangePerInstruction : Obligations.OneExchangePerInstruction := by
  intro i s t h
  have hnone : ∀ e ∈ ([] : List Event), isQuiet e := nofun
  change OneExchange s t
  cases exec_ran h
  case raised | begins | notCreated => exact oneExchange_of_quiet rfl hnone
  case gateStops | connected | disconnected | destroyed | created | timedOut =>
    exact oneExchange_of_quiet (new := [_]) rfl (quiet_result _ hnone)
  case cut | unaligned | sentAlone => exact oneExchange_of_sent rfl hnone
  case halted => exact oneExchange_of_sent (new := [_]) rfl (quiet_result _ hnone)
  case listening => exact oneExchange_of_listening rfl
  case answered hres =>
    obtain ⟨new, hnew, hquiet⟩ := hres.quiet
    exact oneExchange_of_quiet hnew hquiet

end Sys2Proof.Machine
end

section
/-! The read commands up to their receive (R182), and the settings commands at every end but ACK (R220, R224). -/

namespace Sys2Proof.Machine

open Sys2Proof.Claims

variable {s s' t : State} {i : Instr} {c : AckCode} {p : Option (List Byte)}

/-- What an accepted command does that is gated and begins with its exchange. -/
inductive ReadRan (s : State) : State → Prop
  | gateStops (hc : s.connected = false) : ReadRan s (s.complete (.code .nakDisconnected) [])
  | raised (k : FaultKind) (hc : s.connected = true) : ReadRan s (s.raised k)
  | cut (b : List Byte) (n : Nat) (crc : Bool) (k : FaultKind) (hc : s.connected = true) :
      ReadRan s ((s.transmitted b n crc).raised k)
  | listening (b : List Byte) (n : Nat) (crc : Bool) (a : Await) {q : Position} (hc : s.connected = true)
      (hq : q ≠ .idle) : ReadRan s ((s.transmitted b n crc).listening a q)

/-- The five read commands of R169. -/
def isRead (i : Instr) : Prop :=
  i = .getVersion ∨ (∃ p, i = .read p) ∨ (∃ a e, i = .fastRead a e) ∨ (∃ n, i = .readCnt n) ∨ i = .readSig

theorem isRead.gated (hi : isRead i) : gated i = true := by
  rcases hi with rfl | ⟨_, rfl⟩ | ⟨_, _, rfl⟩ | ⟨_, rfl⟩ | rfl <;> rfl

theorem exec_read_ran (hi : isRead i) (h : exec i s = .next t) : ReadRan s t := by
  have hgated := hi.gated
  have hconnected : ∀ hent : entered i s, s.connected = true := fun ⟨_, _, _, hgate⟩ => hgate hgated
  cases exec_ran h
  case gateStops hc => exact .gateStops hc
  case raised k hent => exact .raised k (hconnected hent)
  case cut b n crc hent => exact .cut b n crc _ (hconnected hent)
  case unaligned b n crc hent => exact .cut b n crc _ (hconnected hent)
  case listening e hent he =>
    have hnext := (exchangeOf_next he).1
    have hstays : e.enters = none := by
      rcases exchangeOf_enters he with henters | ⟨rfl | rfl, _⟩
      · exact henters
      · cases hgated
      · cases hgated
    rw [hstays]
    exact .listening _ _ _ _ (hconnected hent) fun hidle => by simp [hidle, Position.awaitsAnswer] at hnext
  case sentAlone hungated => exact absurd (hgated.symm.trans hungated) nofun
  case begins hq => cases hq <;> simp [isRead] at hi
  case answered hres _ _ _ => cases i <;> simp [isRead, responseOf] at hi hres
  all_goals
    have heq := ‹i = _›
    subst heq
    simp [isRead] at hi

/-- Settles O46. -/
theorem readCommandsAreOneExchange : Obligations.ReadCommandsAreOneExchange := by
  intro i s t hi ⟨hfault, _⟩ h
  cases exec_read_ran hi h
  case gateStops hc =>
    exact ⟨rfl, rfl, rfl, rfl, fun hc' => absurd (hc'.symm.trans hc) nofun, fun hc' => absurd (hc'.symm.trans hc) nofun,
      fun _ => rfl⟩
  case raised k hc =>
    exact ⟨rfl, rfl, rfl, rfl, fun _ hno => absurd hno (State.raised_fault_isSome s k), fun _ _ => .inl rfl,
      fun hc' => absurd (hc.symm.trans hc') nofun⟩
  case cut b n crc k hc =>
    exact ⟨rfl, rfl, rfl, rfl, fun _ hno => absurd hno (State.raised_fault_isSome (s.transmitted b n crc) k),
      fun _ _ => .inr ⟨_, frameOf_txCall_ne_none b n crc, rfl⟩, fun hc' => absurd (hc.symm.trans hc') nofun⟩
  case listening b n crc a q hc hq =>
    refine ⟨by simp, by simp, by simp, by simp, fun _ _ => ?_, fun _ hno => ?_,
      fun hc' => absurd (hc.symm.trans hc') nofun⟩
    · exact ⟨s.txCall b n crc, (s.transmitted b n crc).rxCall a, frameOf_txCall_ne_none b n crc, isReceive_rxCall a,
        by simp, hq⟩
    · simp [hfault] at hno

theorem Position.Follows.ne_idle {q q' : Position} (h : q.Follows q') : q' ≠ .idle := by cases h <;> exact nofun

/-- A command that is over otherwise than by ACK has written no SETTINGS and leaves nothing to send (R220, R224). -/
theorem Resumed.settings_of_failed (h : Resumed c p s t) (hfault : s.fault = none)
    (hidle : t.position = .idle) (hfailed : t.result ≠ .code .ack ∨ t.fault ≠ none) :
    t.settings = s.settings ∧ t.txbuf = none ∧ t.await = none := by
  cases h
  case stops | mismatched => exact ⟨rfl, rfl, rfl⟩
  case raised hc hs => rcases hs with rfl | rfl <;> exact ⟨rfl, rfl, rfl⟩
  case continues hc hs hq => exact absurd hidle hq.ne_idle
  case delivered | acknowledged | authenticated | settingsRead | settingsWritten => simp [hfault] at hfailed
  case captured hc hs hu => rcases hs with rfl | rfl <;> simp [hfault] at hfailed

theorem exec_settings_of_failed (hi : isResponse i = true) (hfault : s.fault = none) (h : exec i s = .next t)
    (hidle : t.position = .idle) (hfailed : t.result ≠ .code .ack ∨ t.fault ≠ none) :
    t.settings = s.settings ∧ t.txbuf = none ∧ t.await = none := by
  obtain ⟨r, hr⟩ := exists_responseOf hi
  rcases respond_cases ((exec_of_responseOf hr s).symm.trans h) with ⟨_, rfl⟩ | ⟨_, a, _, hres⟩
  · exact ⟨rfl, rfl, rfl⟩
  · exact hres.settings_of_failed hfault hidle hfailed

/-- READ_SETTINGS without a page is RX_LENGTH (R220, D17). -/
theorem resume_readSettings_none {done : List Bytes4} (hfault : s.fault = none) (hpos : s.position = .readSettings done) :
    resume .ack none s.disarm = .next (faulted .rxLength s) := by
  have hresume : resume .ack none s.disarm = raise .rxLength s.disarm := by simp [resume, hpos, resumeReadSettings]
  rw [hresume, raise_eq, raised_disarm hfault]

/-- Settles O58. -/
theorem settingsMacrosStopAtFirstNak : Obligations.SettingsMacrosStopAtFirstNak := by
  intro s w hawait hfault hpos
  have hlistens : listens s w := by
    rcases hpos with ⟨_, hpos⟩ | ⟨_, _, hpos⟩ <;> exact listens_of hawait hpos nofun nofun
  have hne : s.position ≠ .pwdAuth := by rcases hpos with ⟨_, hpos⟩ | ⟨_, _, hpos⟩ <;> simp [hpos]
  refine ⟨fun i c hi => ?nak, timeoutDisconnects s w hlistens, fun r k b ok _ hkind => ⟨noiseCode_ne_ack _, ?noise⟩,
    fun done hread => ⟨fun b ok hkind hcrc hsw hhw => ?rejects, ?bare⟩,
    fun i t hi h hidle hfailed => exec_settings_of_failed hi hfault h hidle hfailed⟩
  case nak => exact ended_sessionAfterNak hne _ _ ▸ exec_nak hlistens hi
  case noise => exact ended_sessionAfterNak hne _ _ ▸ exec_payload_noise hlistens hkind
  case rejects => exact ended_sessionAfterNak hne _ _ ▸ exec_payload_rejects hlistens hkind hcrc ⟨hsw, hhw⟩
  case bare => exact (respond_short hawait).trans (resume_readSettings_none hfault hread)

end Sys2Proof.Machine
end

section
/-! Runs of several exchanges (R68, R71): what an answer brings to a receive, one exchange in two steps, and the state of a
command that sends several frames (R25, R59). -/

namespace Sys2Proof.Machine

open Sys2Proof.Claims

variable {s u v : State} {i : Instr} {e : Exchange} {w : Await} {a : Answer} {rest : List Answer} {c : AckCode}
  {p : Option (List Byte)} {b : List Byte} {k : Nat}

/-- A run goes on behind its first step. -/
theorem runSteps_next (h : step s = .next u) : runSteps (k + 1) s = runSteps k u := by
  have hcore : Sys2Proof.core.step s = .next u := h
  simp only [runSteps, Host.Core.run, hcore]
  rfl

/-- The answer `a` gives the code `c` and the payload `p` to a receive `w` of a session like `s`. -/
def brings (s : State) (w : Await) (a : Answer) (c : AckCode) (p : Option (List Byte)) : Prop :=
  ∃ j, decode (.rx a) = .ok j ∧ ∀ t : State, t.await = some w → t.crcMode = s.crcMode → t.transport = s.transport →
    exec j t = resume c p t.disarm

theorem brings_ack (s : State) (w : Await) (x : Bool) : brings s w ⟨4, [0x0A], x⟩ .ack none :=
  ⟨.ack, rfl, fun _ hawait _ _ => respond_short hawait⟩

theorem brings_nakWriteError (s : State) (w : Await) (x : Bool) : brings s w ⟨4, [0x05], x⟩ .nakWriteError none :=
  ⟨.nakWriteError, rfl, fun _ hawait _ _ => respond_short hawait⟩

/-- A payload arrives whole at a receive without CRC. -/
theorem brings_plain (hb : b ≠ []) {x : Bool} {n : Nat} (hn : n = 8 * b.length) (s : State) (bits : Nat) :
    brings s (awaitPlain bits) ⟨n, b, x⟩ .ack (some b) :=
  ⟨.payload b x, hn ▸ decodeRx_bytes hb x, fun _ hawait _ _ => respond_plain hawait rfl rfl⟩

/-- A payload arrives whole at a receive with CRC (R54, R120). -/
theorem brings_goodAnswer (hb : b ≠ []) (s : State) (bits : Nat) :
    brings s (awaitPayload bits) (goodAnswer s b) .ack (some b) := by
  have hdelivers : ∃ r ok, decode (.rx (goodAnswer s b)) = .ok (.payload r ok) ∧ delivers s r ok b := by
    cases hmode : s.crcMode with
    | hw => exact ⟨b, true, by rw [goodAnswer, hmode]; exact decodeRx_bytes hb true, .inr ⟨hmode, rfl, rfl⟩⟩
    | sw =>
      refine ⟨b ++ [lo8 (s.crc16 b), hi8 (s.crc16 b)], false, ?_, .inl ⟨hmode, rfl⟩⟩
      have hbits : 8 * b.length + 16 = 8 * (b ++ [lo8 (s.crc16 b), hi8 (s.crc16 b)]).length := by simp; omega
      rw [goodAnswer, hmode, hbits]
      exact decodeRx_bytes (by simp) false
  obtain ⟨r, ok, hdecode, hr⟩ := hdelivers
  refine ⟨_, hdecode, fun t hawait hmode htransport => respond_delivers hawait rfl rfl ?_⟩
  have hcrc16 : t.crc16 = s.crc16 := by rw [State.crc16, State.crc16, htransport]
  rwa [delivers, hmode, hcrc16]

/-- A session behind a whole exchange: the frame sent, the receive called and answered. -/
def exchanged (e : Exchange) (rest : List Answer) (s : State) : State :=
  { s with
    env := { s.afterSent.env with rx := rest }
    events := askedAs s e.await.crc e.await.bits :: sentAs s e.crc e.bytes e.bits :: s.events
    await := none
    position := e.next }

theorem afterSent_rx (s : State) : s.afterSent.env.rx = s.env.rx := by
  unfold State.afterSent
  split <;> rfl

/-- One exchange is two steps: its frame goes out and the receive is called, then the answer comes. -/
theorem runSteps_exchange (hstep : step u = exec i s) (hentered : entered i s) (he : exchangeOf i s = some e)
    (hstays : e.enters = none) (hsent : s.sentAll = true) (haligned : e.await.crc = true → e.await.bits % 8 = 0)
    (hrx : s.env.rx = a :: rest) (hbrings : brings s e.await a c p)
    (hnext : resume c p (exchanged e rest s) = .next v) : runSteps (k + 2) u = runSteps k v := by
  obtain ⟨j, hdecode, hexec⟩ := hbrings
  have hwaiting : exec i s = .next (waiting s (sentAs s e.crc e.bytes e.bits) (askedAs s e.await.crc e.await.bits) e.await
      e.next) := by rw [exec_waiting hentered he hsent haligned, hstays]; rfl
  have hlisted : (waiting s (sentAs s e.crc e.bytes e.bits) (askedAs s e.await.crc e.await.bits) e.await e.next).env.rx
      = a :: rest := (afterSent_rx s).trans hrx
  rw [runSteps_next (hstep.trans hwaiting)]
  refine runSteps_next ((step_answer rfl hlisted hdecode).trans ?_)
  refine Eq.trans (hexec _ ?await ?mode ?transport) ?resumed
  case resumed => exact hnext
  all_goals rfl

/-- A session `s` in the middle of a command: its position, the frame that is due, the answers left, and the history. -/
def underway (s : State) (q : Position) (f : Option Frame) (env : Env) (ev : List Event) : State :=
  { s with position := q, txbuf := f, env := env, events := ev }

variable {q : Position} {f : Frame} {more : List Bool} {probes : List Bool} {tick : Nat} {ev : List Event}

/-- The two steps of a frame that a running command has put into the TX buffer. -/
theorem runSteps_underway (hs : s.accepting) (hgate : gated i = true → s.connected = true)
    (hdecode : decode (.tx f) = .ok i) (he : ∀ env, exchangeOf i (underway s q none env ev) = some e)
    (hstays : e.enters = none) (haligned : e.await.crc = true → e.await.bits % 8 = 0) (hbrings : brings s e.await a c p)
    (hnext : resume c p (underway s e.next none ⟨more, rest, probes, tick⟩
      (askedAs s e.await.crc e.await.bits :: sentAs s e.crc e.bytes e.bits :: ev)) = .next v) :
    runSteps (k + 2) (underway s q (some f) ⟨true :: more, a :: rest, probes, tick⟩ ev) = runSteps k v := by
  have ⟨hfault, hattached, _, hawait⟩ := hs
  refine runSteps_exchange (s := underway s q none ⟨true :: more, a :: rest, probes, tick⟩ ev)
    (step_frame hawait rfl hdecode) ⟨hfault, hawait, .inl hattached, hgate⟩ (he _) hstays rfl haligned rfl
    (by exact hbrings) ?_
  rw [← hnext]
  simp only [exchanged, underway, hawait]
  rfl

theorem exchanged_eq_underway (hawait : s.await = none) (htx : s.txbuf = none) : exchanged e rest s
    = underway s e.next none { s.afterSent.env with rx := rest }
        (askedAs s e.await.crc e.await.bits :: sentAs s e.crc e.bytes e.bits :: s.events) := by
  simp [exchanged, underway, hawait, htx]

/-- The head of the port of a session at rest is taken. -/
theorem State.atRest.step_eq (hs : s.atRest) (hcmd : s.cmd = [f]) (hdecode : decode (.cmd f) = .ok i) :
    step s = exec i { s with cmd := [] } :=
  have ⟨_, _, hawait, htx⟩ := hs
  step_command hawait htx hcmd hdecode

theorem State.atRest.accepting (hs : s.atRest) (hattached : s.attached = true) (cmd : List Frame) :
    State.accepting { s with cmd := cmd } :=
  have ⟨hfault, hidle, hawait, _⟩ := hs
  ⟨hfault, hattached, hidle, hawait⟩

/-- The two steps of a command from the port that makes an exchange at once. -/
theorem runSteps_command (hs : s.atRest) (hattached : s.attached = true) (hcmd : s.cmd = [f])
    (hdecode : decode (.cmd f) = .ok i) (hgate : gated i = true → s.connected = true)
    (he : exchangeOf i { s with cmd := [] } = some e) (hstays : e.enters = none) (hsent : s.sentAll = true)
    (haligned : e.await.crc = true → e.await.bits % 8 = 0) (hrx : s.env.rx = a :: rest) (hbrings : brings s e.await a c p)
    (hnext : resume c p (underway { s with cmd := [] } e.next none { s.afterSent.env with rx := rest }
      (askedAs s e.await.crc e.await.bits :: sentAs s e.crc e.bytes e.bits :: s.events)) = .next v) :
    runSteps (k + 2) s = runSteps k v := by
  have ⟨_, _, hawait, htx⟩ := hs
  have heq := exchanged_eq_underway (s := { s with cmd := [] }) (e := e) (rest := rest) hawait htx
  exact runSteps_exchange (hs.step_eq hcmd hdecode) (entered_of_accepting (hs.accepting hattached []) hgate) he hstays hsent
    haligned hrx hbrings (heq ▸ hnext)

theorem afterSent_of_listed {b : Bool} (hsent : s.env.sent = b :: more) :
    s.sentAll = b ∧ s.afterSent.env = { s.env with sent := more } := by
  simp [State.sentAll, State.afterSent, hsent]

/-- `Finish` with a payload of the expected length (R126). -/
theorem resume_finish_underway {n : Nat} {env : Env} (hn : b.length = n) :
    resume .ack (some b) (underway s (.finish n) none env ev)
      = .next (ended { s with env := env, events := ev } (.code .ack) b) := by
  exact if_pos hn

/-- An acknowledged phase 1 puts the data frame into the TX buffer (R194). -/
theorem resume_compPhase1_ack {d : Bytes16} {env : Env} :
    resume .ack none (underway s (.compPhase1 d) none env ev)
      = .next (underway s .compPhase2 (some (Frame.ofBytes d.toList)) env ev) := rfl

end Sys2Proof.Machine
end

section
/-! READ and COMP_WRITE as a whole (R174, R194). -/

namespace Sys2Proof.Machine

open Sys2Proof.Claims

theorem bytes16_length (d : Bytes16) : d.toList.length = 16 := rfl

theorem bytes16_ne_nil (d : Bytes16) : d.toList ≠ [] := List.cons_ne_nil _ _

/-- Settles O47. -/
theorem readDeliversSixteenBytes : Obligations.ReadDeliversSixteenBytes := by
  intro s page d rest hrest hattached hc hmode hsent hcmd hrx
  have ⟨_, hidle, _, _⟩ := hrest
  have hgood : goodAnswer s d.toList = ⟨144, d.toList ++ [lo8 (s.crc16 d.toList), hi8 (s.crc16 d.toList)], false⟩ := by
    simp only [goodAnswer, hmode, bytes16_length]
  have htx : wireTx s [Opcode.read, page] 16
      = .transmit ⟨[0x30, page, lo8 (s.crc16 [0x30, page]), hi8 (s.crc16 [0x30, page])], 32⟩ := by
    simp only [wireTx, hmode]
    rfl
  have hasked : wireRx s 128 = .receive 144 := by simp only [wireRx, hmode]
  rw [← htx, ← hasked]
  exact runSteps_command (k := 0) hrest hattached hcmd rfl (fun _ => hc) (readPageOf_idle hidle page) rfl hsent
    (fun _ => (rfl : 128 % 8 = 0)) (hrx.trans (congrArg (· :: rest) hgood.symm))
    (brings_goodAnswer (bytes16_ne_nil d) _ _) (resume_finish_underway (bytes16_length d))

/-- Settles O51: phase 1 is one exchange, its acknowledgement loads the data frame, and phase 2 is another. -/
theorem compWriteTwoPhases : Obligations.CompWriteTwoPhases := by
  intro s page d rest x y hrest hattached hc hcmd hsent hrx
  have ⟨_, hidle, _, _⟩ := hrest
  obtain ⟨hwhole, henv⟩ := afterSent_of_listed hsent
  rw [runSteps_command (i := .compWriteP1 page d) hrest hattached hcmd rfl (fun _ => hc) (atIdle_of hidle) rfl hwhole nofun hrx
    (brings_ack _ _ x) resume_compPhase1_ack, henv]
  exact runSteps_underway (i := .compWriteP2 d) (e := ⟨d.toList, 128, true, none, awaitAck, .finishAck⟩) (k := 0)
    (hrest.accepting hattached []) nofun rfl (fun _ => rfl) rfl nofun (brings_ack _ _ y) rfl

end Sys2Proof.Machine
end

section
/-! The settings commands as a whole (R220, R224): one exchange per page, each an iteration of the same two steps. -/

namespace Sys2Proof.Machine

open Sys2Proof.Claims

variable {s : State} {a : Answer} {rest : List Answer} {k : Nat} {env : Env} {more probes : List Bool} {tick : Nat}
  {ev : List Event} {done : List Bytes4} {r : Settings} {n : Nat}

/-- READ_SETTINGS on a session `s`, before the exchange of its next page. -/
def gathering (s : State) (done : List Bytes4) (env : Env) (ev : List Event) : State :=
  underway s (.readSettings done) (some (settingsReadFrame s.variant done.length)) env ev

/-- WRITE_SETTINGS on a session `s`, before the exchange of page `n`. -/
def spreading (s : State) (r : Settings) (n : Nat) (env : Env) (ev : List Event) : State :=
  underway s (.writeSettings r n) (some (settingsWriteFrame s.variant (pack s.params.codec r) n)) env ev

theorem step_readSettings (hs : s.atRest) (hattached : s.attached = true) (hc : s.connected = true)
    (hcmd : s.cmd = [(⟨[0xE4], 8⟩ : Frame)]) (henv : s.env = env) :
    step s = .next (gathering { s with cmd := [] } [] env s.events) := by
  subst henv
  rw [hs.step_eq (i := .readSettings) hcmd rfl, exec, execReadSettings, (hs.accepting hattached []).accept_eq hc rfl]
  rfl

theorem step_writeSettings (hs : s.atRest) (hattached : s.attached = true) (hc : s.connected = true)
    (hcmd : s.cmd = [Frame.ofBytes (0xE5 :: (packStandard r).toList)]) (henv : s.env = env) :
    step s = .next (spreading { s with cmd := [] } r 0 env s.events) := by
  subst henv
  rw [hs.step_eq (i := .writeSettings r) hcmd (decode_encode_writeSettings r), exec, execWriteSettings,
    (hs.accepting hattached []).accept_eq hc rfl]
  rfl

/-- A page of sixteen bytes was read (R220). -/
theorem resume_readSettings_page {p : Bytes4} {w : List Byte} (hw : w.length = 12) :
    resume .ack (some (p.toList ++ w)) (underway s (.readSettings done) none env ev)
      = collectPage done p (underway s (.readSettings done) none env ev) := if_pos hw

theorem collectPage_of_lt {p : Bytes4} (hdone : done.length < 3) : collectPage done p s
    = .next ((s.goto (.readSettings (done ++ [p]))).load (settingsReadFrame s.variant (done.length + 1))) := by
  match done, hdone with
  | [], _ | [_], _ | [_, _], _ => rfl

section Iterations

variable (hs : s.accepting) (hc : s.connected = true)
include hs hc

theorem runSteps_gathering {p : Bytes4} {w : List Byte} (hw : w.length = 12)
    (hbrings : brings s (awaitPayload 128) a .ack (some (p.toList ++ w))) {v : State}
    (hnext : collectPage done p (underway s (.readSettings done) none ⟨more, rest, probes, tick⟩
      (wireRx s 128 :: wireTx s [0x30, settingsPage s.variant done.length] 16 :: ev)) = .next v) :
    runSteps (k + 2) (gathering s done ⟨true :: more, a :: rest, probes, tick⟩ ev) = runSteps k v :=
  runSteps_underway (i := .read (settingsPage s.variant done.length))
    (e := ⟨[Opcode.read, settingsPage s.variant done.length], 16, true, none, awaitPayload 128, .readSettings done⟩)
    hs (fun _ => hc) rfl (fun _ => rfl) rfl (fun _ => (rfl : 128 % 8 = 0)) hbrings
    ((resume_readSettings_page hw).trans hnext)

/-- An iteration of READ_SETTINGS before the last. -/
theorem runSteps_gathering_next {p : Bytes4} {w : List Byte} (hw : w.length = 12) (hdone : done.length < 3)
    (hbrings : brings s (awaitPayload 128) a .ack (some (p.toList ++ w))) :
    runSteps (k + 2) (gathering s done ⟨true :: more, a :: rest, probes, tick⟩ ev)
      = runSteps k (gathering s (done ++ [p]) ⟨more, rest, probes, tick⟩
          (wireRx s 128 :: wireTx s [0x30, settingsPage s.variant done.length] 16 :: ev)) := by
  refine runSteps_gathering hs hc hw hbrings ((collectPage_of_lt hdone).trans ?_)
  rw [gathering, List.length_append]
  rfl

/-- An exchange of WRITE_SETTINGS. -/
theorem runSteps_spreading {c : AckCode} {v : State} (hbrings : brings s awaitAck a c none)
    (hnext : resumeWriteSettings r n c (underway s (.writeSettings r n) none ⟨more, rest, probes, tick⟩
      (.receive 4 :: wireTx s ([0xA2, settingsPage s.variant n] ++ (pageOf (pack s.params.codec r) n).toList) 48 :: ev))
        = .next v) :
    runSteps (k + 2) (spreading s r n ⟨true :: more, a :: rest, probes, tick⟩ ev) = runSteps k v :=
  runSteps_underway (i := .write (settingsPage s.variant n) (pageOf (pack s.params.codec r) n))
    (e := ⟨[Opcode.write, settingsPage s.variant n] ++ (pageOf (pack s.params.codec r) n).toList, 48, true, none, awaitAck,
      .writeSettings r n⟩) hs (fun _ => hc) rfl (fun _ => rfl) rfl nofun hbrings hnext

/-- An acknowledged page of WRITE_SETTINGS before the last. -/
theorem runSteps_spreading_next (hn : n < 3) (x : Bool) :
    runSteps (k + 2) (spreading s r n ⟨true :: more, ⟨4, [0x0A], x⟩ :: rest, probes, tick⟩ ev)
      = runSteps k (spreading s r (n + 1) ⟨more, rest, probes, tick⟩
        (.receive 4 :: wireTx s ([0xA2, settingsPage s.variant n] ++ (pageOf (pack s.params.codec r) n).toList) 48 :: ev)) :=
  runSteps_spreading hs hc (brings_ack _ _ x) (if_neg (Nat.not_le.mpr hn))

end Iterations

/-- Settles O56: three iterations that go on, and the one that ends. -/
theorem readSettingsCollectsFourPages : Obligations.ReadSettingsCollectsFourPages := by
  intro s img w0 w1 w2 w3 hrest hattached hc hmode hcmd hw0 hw1 hw2 hw3 henv
  have hs := hrest.accepting hattached []
  have hbrings : ∀ (p : Bytes4) (w : List Byte), w.length = 12 → brings { s with cmd := [] } (awaitPayload 128)
      ⟨128, p.toList ++ w, true⟩ .ack (some (p.toList ++ w)) := by
    intro p w hw
    have hgood : goodAnswer { s with cmd := [] } (p.toList ++ w) = ⟨128, p.toList ++ w, true⟩ := by
      simp [goodAnswer, hmode, hw, Bytes4.toList]
    exact hgood ▸ brings_goodAnswer (List.cons_ne_nil _ _) _ _
  have htx : ∀ b n, wireTx { s with cmd := [] } b n = .transmitCrc ⟨b, n⟩ := by simp [wireTx, hmode]
  have hrx : wireRx { s with cmd := [] } 128 = .receiveCrc 128 := by simp [wireRx, hmode]
  rw [runSteps_next (step_readSettings hrest hattached hc hcmd henv),
    runSteps_gathering_next hs hc hw0 (by simp) (hbrings img.p0 w0 hw0),
    runSteps_gathering_next hs hc hw1 (by simp) (hbrings img.p1 w1 hw1),
    runSteps_gathering_next hs hc hw2 (by simp) (hbrings img.p2 w2 hw2),
    runSteps_gathering (k := 0) hs hc hw3 (hbrings img.p3 w3 hw3) rfl]
  simp only [htx, hrx, List.length, settingsPage_zero]
  rfl

/-- Settles O57: in the first run four pages are acknowledged, in the second the second page is not. -/
theorem writeSettingsFourWrites : Obligations.WriteSettingsFourWrites := by
  intro s r hrest hattached hc hcmd hsent
  have hs := hrest.accepting hattached []
  have henv : ∀ {rx}, s.env.rx = rx → s.env = ⟨[true, true, true, true], rx, s.env.probe, s.env.tick⟩ := by
    rintro rx rfl
    rw [← hsent]
  refine ⟨fun ⟨x, hrx⟩ => ?_, fun ⟨x, hrx⟩ => ?_⟩
  · rw [runSteps_next (step_writeSettings hrest hattached hc hcmd (henv hrx)), runSteps_spreading_next hs hc (by decide) x,
      runSteps_spreading_next hs hc (by decide) x, runSteps_spreading_next hs hc (by decide) x,
      runSteps_spreading (k := 0) hs hc (brings_ack _ _ x) rfl]
    simp only [settingsPage_zero]
    rfl
  · rw [runSteps_next (step_writeSettings hrest hattached hc hcmd (henv hrx)), runSteps_spreading_next hs hc (by decide) x,
      runSteps_spreading (k := 0) hs hc (brings_nakWriteError _ _ x) rfl]
    simp only [settingsPage_zero]
    rfl

end Sys2Proof.Machine
end

section
/-! CONNECT with the default procedure as a whole (R150): two exchanges per cascade level. -/

namespace Sys2Proof.Machine

open Sys2Proof.Claims

variable {s v : State} {a : Answer} {rest : List Answer} {k : Nat} {env : Env} {more probes : List Bool} {tick : Nat}
  {ev : List Event} {l : Cascade} {r : Bytes4} {check sak : Byte}

/-- The select instruction of a cascade level. -/
def selectInstr : Cascade → Byte → List Byte → Instr
  | .one => .selectL1
  | .two _ => .selectL2

theorem exchangeOf_selectInstr (l : Cascade) (nvb : Byte) (u : List Byte) (s : State) :
    exchangeOf (selectInstr l nvb u) s = selectOf s (selectOpcode l) nvb u := by
  cases l <;> rfl

theorem gated_selectInstr (l : Cascade) (nvb : Byte) (u : List Byte) : gated (selectInstr l nvb u) = false := by
  cases l <;> rfl

theorem decode_anticollFrame (l : Cascade) : decode (.tx (anticollFrame l)) = .ok (selectInstr l nvbAnticoll []) := by
  cases l <;> rfl

theorem decode_selectFrame (l : Cascade) (r : Bytes4) (check : Byte) :
    decode (.tx (selectFrame l r check)) = .ok (selectInstr l nvbSelect (r.toList ++ [check])) := by
  cases l <;> rfl

/-- CONNECT on a session `s`, before the anticollision request of a level. -/
def asking (s : State) (l : Cascade) (env : Env) (ev : List Event) : State :=
  underway s (.anticoll l) (some (anticollFrame l)) env ev

/-- CONNECT on a session `s`, before the select of a level. -/
def selecting (s : State) (l : Cascade) (r : Bytes4) (check : Byte) (env : Env) (ev : List Event) : State :=
  underway s (.select l r) (some (selectFrame l r check)) env ev

theorem step_connect (hs : s.atRest) (hattached : s.attached = true) (hx : s.session = .requested)
    (hproc : s.params.selectProc = .standard) (hcmd : s.cmd = [(⟨[0xE1], 8⟩ : Frame)]) (henv : s.env = env) :
    step s = .next (asking { s with cmd := [] } .one env s.events) := by
  subst henv
  rw [hs.step_eq (i := .connect) hcmd rfl, exec, execConnect, (hs.accepting hattached []).accept_ungated_eq rfl, if_pos hx,
    hproc]
  rfl

/-- An anticollision answer with the right check byte, and with the cascade tag at level 1, leads to the select (R150). -/
theorem acceptAnticoll_of_good (hcheck : checkByteOk r check = true) (htag : cascadeOk l r.b0 = true) :
    acceptAnticoll l (some (r.toList ++ [check])) s = .next ((s.goto (.select l r)).load (selectFrame l r check)) :=
  if_pos (Bool.and_eq_true_iff.mpr ⟨hcheck, htag⟩)

theorem resume_anticoll_clear {p : Option (List Byte)} : resume .ack p
      (underway s (.anticoll l) none ⟨more, rest, false :: probes, tick⟩ ev)
      = acceptAnticoll l p (underway s (.anticoll l) none ⟨more, rest, probes, tick⟩ (.probe :: ev)) := rfl

/-- The anticollision exchange of a level. -/
theorem runSteps_asking (hs : s.accepting) (hcheck : checkByteOk r check = true) (htag : cascadeOk l r.b0 = true) (x : Bool) :
    runSteps (k + 2) (asking s l ⟨true :: more, ⟨40, r.toList ++ [check], x⟩ :: rest, false :: probes, tick⟩ ev)
      = runSteps k (selecting s l r check ⟨more, rest, probes, tick⟩
          (.probe :: .receive 40 :: sentAs s s.params.anticollCrc [selectOpcode l, nvbAnticoll] 16 :: ev)) :=
  runSteps_underway (e := ⟨[selectOpcode l, nvbAnticoll], 16, s.params.anticollCrc, none, awaitPlain 40, .anticoll l⟩) hs
    (by simp [gated_selectInstr]) (decode_anticollFrame l) (fun _ => exchangeOf_selectInstr l nvbAnticoll [] _) rfl nofun
    (brings_plain (List.cons_ne_nil _ _) rfl _ _) (resume_anticoll_clear.trans (acceptAnticoll_of_good hcheck htag))

theorem resume_select_complete (hsak : sakOk l sak = true) : resume .ack (some [sak]) (underway s (.select l r) none env ev)
    = advanceSelect r (underway s (.select l r) none env ev) l := if_pos hsak

/-- The select exchange of a level. -/
theorem runSteps_selecting (hs : s.accepting) (hsak : sakOk l sak = true)
    (hnext : advanceSelect r (underway s (.select l r) none ⟨more, rest, probes, tick⟩
      (wireRx s 8 :: wireTx s ([selectOpcode l, nvbSelect] ++ (r.toList ++ [check])) 56 :: ev)) l = .next v) :
    runSteps (k + 2) (selecting s l r check ⟨true :: more, goodAnswer s [sak] :: rest, probes, tick⟩ ev) = runSteps k v :=
  runSteps_underway
    (e := ⟨[selectOpcode l, nvbSelect] ++ (r.toList ++ [check]), 56, true, none, awaitPayload 8, .select l r⟩) hs
    (by simp [gated_selectInstr]) (decode_selectFrame l r check)
    (fun _ => exchangeOf_selectInstr l nvbSelect (r.toList ++ [check]) _) rfl (fun _ => (rfl : 8 % 8 = 0))
    (brings_goodAnswer (List.cons_ne_nil _ _) _ _) ((resume_select_complete hsak).trans hnext)

/-- The check byte of an anticollision answer (R150). -/
def checkOf (r : Bytes4) : Byte := r.b0 ^^^ r.b1 ^^^ r.b2 ^^^ r.b3

theorem checkByteOk_checkOf (r : Bytes4) : checkByteOk r (checkOf r) = true := decide_eq_true rfl

/-- The four bytes of a UID's first cascade level: the tag and the first three bytes (R150). -/
def Uid.levelOne (u : Uid) : Bytes4 := ⟨cascadeTag, u.head.b0, u.head.b1, u.head.b2⟩

/-- The level-1 select of a UID leads to the anticollision request of level 2 with its first three bytes (R150). -/
theorem runSteps_selecting_levelOne (hs : s.accepting) {u : Uid} (hsak : sakOk .one sak = true) :
    runSteps (k + 2) (selecting s .one (Uid.levelOne u) check ⟨true :: more, goodAnswer s [sak] :: rest, probes, tick⟩ ev)
      = runSteps k (asking s (.two u.head) ⟨more, rest, probes, tick⟩
          (wireRx s 8 :: wireTx s ([Opcode.selectL1, nvbSelect] ++ ((Uid.levelOne u).toList ++ [check])) 56 :: ev)) :=
  runSteps_selecting hs hsak rfl

/-- The level-2 select of a UID ends the command with the whole UID (R150). -/
theorem runSteps_selecting_levelTwo (hs : s.accepting) {u : Uid} (hsak : sakOk (.two u.head) sak = true) :
    runSteps (k + 2) (selecting s (.two u.head) u.tail check ⟨true :: more, goodAnswer s [sak] :: rest, probes, tick⟩ ev)
      = runSteps k (ended { s with
          session := .selected, uid := u, env := ⟨more, rest, probes, tick⟩
          events := wireRx s 8 :: wireTx s ([Opcode.selectL2, nvbSelect] ++ (u.tail.toList ++ [check])) 56 :: ev }
        (.code .ack) []) :=
  runSteps_selecting hs hsak rfl

/-- Settles O36: two levels of two exchanges each. -/
theorem connectCapturesTheUid : Obligations.ConnectCapturesTheUid := by
  intro s u sak1 sak2 hrest hattached hx hproc hcmd hsak1 hsak2 henv
  have hs := hrest.accepting hattached []
  have ⟨hfault, _, _, _⟩ := hrest
  have hanswers : s.env = ⟨[true, true, true, true],
      [⟨40, (Uid.levelOne u).toList ++ [checkOf (Uid.levelOne u)], true⟩, goodAnswer { s with cmd := [] } [sak1],
        ⟨40, u.tail.toList ++ [checkOf u.tail], true⟩, goodAnswer { s with cmd := [] } [sak2]], [false, false], 0⟩ := henv
  have htag : cascadeOk .one (Uid.levelOne u).b0 = true := decide_eq_true (rfl : cascadeTag = cascadeTag)
  have hcomplete : sakOk (.two u.head) sak2 = true := congrArg not hsak2
  rw [runSteps_next (k := 8) (step_connect hrest hattached hx hproc hcmd hanswers),
    runSteps_asking hs (checkByteOk_checkOf _) htag true, runSteps_selecting_levelOne hs hsak1,
    runSteps_asking hs (checkByteOk_checkOf _) rfl true, runSteps_selecting_levelTwo hs hcomplete]
  exact ⟨_, rfl, rfl, rfl, rfl, rfl, rfl, rfl, rfl, ⟨hfault, rfl, rfl, rfl⟩, rfl, rfl, rfl, rfl⟩

end Sys2Proof.Machine
end

section
/-! Two runs side by side (R58, R70, R207): states that differ at most in STATE, SETTINGS, CRC_MODE and the form of the calls
recorded, as far as a `Blur` allows, and what every operation keeps of that. -/

namespace Sys2Proof.Machine

open Sys2Proof.Claims

/-- What two runs may differ in: which STATE values, records and CRC modes go together, and the form in which the calls made
are compared. -/
structure Blur where
  session : Session → Session → Prop
  settings : Settings → Settings → Prop
  mode : CrcMode → CrcMode → Prop
  form : Event → Event

/-- What the engine's rules need of a blur: values written by both runs go together, and no gate tells the two runs apart. -/
structure Blur.Lawful (B : Blur) : Prop where
  session_refl : ∀ x, x ≠ .authenticated → B.session x x
  settings_refl : ∀ r, B.settings r r
  mode_refl : ∀ m, B.mode m m
  connected : ∀ x y, B.session x y → y.isConnected = x.isConnected
  requested : ∀ x y, B.session x y → (y = .requested ↔ x = .requested)

/-- A state with another STATE, record, CRC mode and history. -/
def State.dressed (x : Session) (r : Settings) (m : CrcMode) (ev : List Event) (s : State) : State :=
  { s with session := x, settings := r, crcMode := m, events := ev }

/-- Two states that differ at most in what the blur allows. -/
inductive Twin (B : Blur) (s : State) : State → Prop
  | intro {x : Session} {r : Settings} {m : CrcMode} {ev : List Event} (hx : B.session s.session x)
      (hr : B.settings s.settings r) (hm : B.mode s.crcMode m) (hev : ev.map B.form = s.events.map B.form) :
      Twin B s (s.dressed x r m ev)

/-- Two outcomes of the same kind, whose states are related by `R`. -/
inductive Paired (R : State → State → Prop) : Out → Out → Prop
  | next {s t : State} (h : R s t) : Paired R (.next s) (.next t)
  | refused (r : Refusal) : Paired R (.refused r) (.refused r)
  | fault (f : Fault) : Paired R (.fault f) (.fault f)

theorem Paired.mapNext_eq {R : State → State → Prop} {f g : State → State} {o o' : Out} (h : Paired R o o')
    (hR : ∀ s t, R s t → f s = g t) : mapNext f o = mapNext g o' := by
  cases h with
  | next h => exact congrArg Host.Outcome.next (hR _ _ h)
  | refused | fault => rfl

theorem Paired.mapNext_eq_right {R : State → State → Prop} {f : State → State} {o o' : Out} (h : Paired R o o')
    (hR : ∀ s t, R s t → f s = t) : mapNext f o = o' := by
  cases h with
  | next h => exact congrArg Host.Outcome.next (hR _ _ h)
  | refused | fault => rfl

theorem Paired.eq_of_refused {R : State → State → Prop} {r : Refusal} {o : Out} (h : Paired R (.refused r) o) :
    o = .refused r := by
  cases h
  rfl

variable {B : Blur} {s t : State}

section Operations

/-! What both runs read is the same, but for what the blur hides. -/

theorem Twin.fault (h : Twin B s t) : t.fault = s.fault := by cases h; rfl
theorem Twin.attached (h : Twin B s t) : t.attached = s.attached := by cases h; rfl
theorem Twin.variant (h : Twin B s t) : t.variant = s.variant := by cases h; rfl
theorem Twin.transport (h : Twin B s t) : t.transport = s.transport := by cases h; rfl
theorem Twin.position (h : Twin B s t) : t.position = s.position := by cases h; rfl
theorem Twin.await (h : Twin B s t) : t.await = s.await := by cases h; rfl
theorem Twin.params (h : Twin B s t) : t.params = s.params := by cases h; rfl
theorem Twin.sentAll (h : Twin B s t) : t.sentAll = s.sentAll := by cases h; rfl
theorem Twin.collides (h : Twin B s t) : t.collides = s.collides := by cases h; rfl
theorem Twin.session (h : Twin B s t) : B.session s.session t.session := by cases h; assumption
theorem Twin.settings (h : Twin B s t) : B.settings s.settings t.settings := by cases h; assumption
theorem Twin.mode (h : Twin B s t) : B.mode s.crcMode t.crcMode := by cases h; assumption

theorem Twin.ready (h : Twin B s t) (own : Position → Bool) : t.ready own = s.ready own := by cases h; rfl

/-- An update that neither reads nor writes what the two runs may differ in. -/
theorem Twin.update {f : State → State} (h : Twin B s t)
    (hf : ∀ x r m ev, f (s.dressed x r m ev) = (f s).dressed x r m ev) : Twin B (f s) (f t) := by
  have hown : f s = (f s).dressed s.session s.settings s.crcMode s.events := hf s.session s.settings s.crcMode s.events
  obtain ⟨hx, hr, hm, hev⟩ := h
  rw [hf]
  refine .intro ?_ ?_ ?_ ?_ <;> rw [hown] <;> assumption

theorem Twin.goto (h : Twin B s t) (p : Position) : Twin B (s.goto p) (t.goto p) := h.update fun _ _ _ _ => rfl
theorem Twin.load (h : Twin B s t) (f : Frame) : Twin B (s.load f) (t.load f) := h.update fun _ _ _ _ => rfl
theorem Twin.arm (h : Twin B s t) (w : Await) : Twin B (s.arm w) (t.arm w) := h.update fun _ _ _ _ => rfl
theorem Twin.disarm (h : Twin B s t) : Twin B s.disarm t.disarm := h.update fun _ _ _ _ => rfl
theorem Twin.clearFault (h : Twin B s t) : Twin B s.clearFault t.clearFault := h.update fun _ _ _ _ => rfl
theorem Twin.afterSent (h : Twin B s t) : Twin B s.afterSent t.afterSent := h.update fun _ _ _ _ => rfl
theorem Twin.afterProbe (h : Twin B s t) : Twin B s.afterProbe t.afterProbe := h.update fun _ _ _ _ => rfl
theorem Twin.setUid (h : Twin B s t) (u : Uid) : Twin B (s.setUid u) (t.setUid u) := h.update fun _ _ _ _ => rfl
theorem Twin.raised (h : Twin B s t) (k : FaultKind) : Twin B (s.raised k) (t.raised k) := h.update fun _ _ _ _ => rfl

/-! The updates that write one of the four fields write the same to both. -/

theorem Twin.record {e e' : Event} (h : Twin B s t) (he : B.form e' = B.form e) :
    Twin B (s.record e) (t.record e') := by
  obtain ⟨hx, hr, hm, hev⟩ := h
  exact .intro hx hr hm (by simp [State.dressed, hev, he])

theorem Twin.setSession {x : Session} (h : Twin B s t) (hx : B.session x x) : Twin B (s.setSession x) (t.setSession x) := by
  obtain ⟨_, hr, hm, hev⟩ := h
  exact .intro hx hr hm hev

theorem Twin.setSettings {r : Settings} (h : Twin B s t) (hr : B.settings r r) :
    Twin B (s.setSettings r) (t.setSettings r) := by
  obtain ⟨hx, _, hm, hev⟩ := h
  exact .intro hx hr hm hev

theorem Twin.complete (h : Twin B s t) (r : Result) (b : List Byte) : Twin B (s.complete r b) (t.complete r b) := by
  obtain ⟨hx, hr, hm, hev⟩ := h
  exact .intro hx hr hm (by simp [State.dressed, hev])

theorem Twin.create (hB : B.Lawful) (h : Twin B s t) (v : Variant) (tr : Transport) (m : CrcMode) :
    Twin B (s.create v tr m) (t.create v tr m) := by
  obtain ⟨_, _, _, hev⟩ := h
  exact .intro (hB.session_refl _ nofun) (hB.settings_refl _) (hB.mode_refl _) (by simp [State.create, State.dressed, hev])

end Operations

end Sys2Proof.Machine
end

section
/-! The engine keeps two runs side by side: what follows a receive, and every command. -/

namespace Sys2Proof.Machine

open Sys2Proof.Claims

variable {B : Blur} {s t : State} {c : AckCode} {p : Option (List Byte)} {body body' : State → Out}

/-- Two runs side by side. -/
abbrev Alongside (B : Blur) : Out → Out → Prop := Paired (Twin B)

/-- A blur that hides neither STATE nor SETTINGS. -/
structure Blur.Exact (B : Blur) : Prop where
  session_refl : ∀ x, B.session x x
  session_eq : ∀ x y, B.session x y → y = x
  settings_eq : ∀ r r', B.settings r r' → r' = r

theorem Twin.raise (h : Twin B s t) (k : FaultKind) : Alongside B (raise k s) (raise k t) := .next (h.raised k)

theorem Twin.finishAck (h : Twin B s t) (c : AckCode) : Alongside B (finishAck c s) (finishAck c t) := .next (h.complete _ _)

theorem Twin.finish (h : Twin B s t) (n : Nat) : Alongside B (finish c p n s) (finish c p n t) := by
  unfold Machine.finish
  split
  · split
    · split
      · exact .next (h.complete _ _)
      · exact h.raise _
    · exact h.raise _
  · exact h.finishAck _

theorem Twin.probeFirst (h : Twin B s t) (hbody : ∀ u v, Twin B u v → Alongside B (body u) (body' v)) :
    Alongside B (probeFirst s body) (probeFirst t body') := by
  have hprobed : Twin B (s.record .probe) (t.record .probe) := h.record rfl
  unfold Machine.probeFirst
  rw [hprobed.collides]
  split
  · exact .refused _
  · exact hbody _ _ hprobed.afterProbe

theorem Twin.acceptAnticoll (h : Twin B s t) (l : Cascade) : Alongside B (acceptAnticoll l p s) (acceptAnticoll l p t) := by
  unfold Machine.acceptAnticoll
  split
  · split
    · exact .next ((h.goto _).load _)
    · exact h.raise _
  · exact h.raise _

theorem Twin.resumePwdAuth (h : Twin B s t) (hexact : B.Exact) :
    Alongside B (resumePwdAuth c p s) (resumePwdAuth c p t) := by
  unfold Machine.resumePwdAuth
  rw [hexact.settings_eq _ _ h.settings, hexact.session_eq _ _ h.session]
  have hdropped : Twin B (if s.session = .authenticated then s.setSession .selected else s)
      (if s.session = .authenticated then t.setSession .selected else t) := by
    split
    · exact h.setSession (hexact.session_refl _)
    · exact h
  split
  · exact .next ((h.setSession (hexact.session_refl _)).complete _ _)
  · exact .next (hdropped.complete _ _)

theorem rxFrame_position (s : State) (w : Await) (r : Response) : (rxFrame s w r).state.position = s.position := by
  by_cases hr : r = .timeout
  · rw [hr]
    rfl
  · rw [rxFrame_state_of_ne_timeout hr]

section Lawful

variable (hB : B.Lawful)
include hB

theorem Twin.captureUid (h : Twin B s t) (u : Uid) : Alongside B (captureUid u s) (captureUid u t) :=
  ((h.setUid u).setSession (hB.session_refl .selected nofun)).finishAck _

theorem Twin.followProcedure (h : Twin B s t) (k : Nat) (answers : List (Option (List Byte))) :
    Alongside B (followProcedure k answers s) (followProcedure k answers t) := by
  unfold Machine.followProcedure
  split
  · exact h.raise _
  · exact .next ((h.goto _).load _)
  · exact h.captureUid hB _

theorem Twin.advanceSelect (h : Twin B s t) (q : Bytes4) (l : Cascade) :
    Alongside B (advanceSelect q s l) (advanceSelect q t l) := by
  cases l with
  | one => exact .next ((h.goto _).load _)
  | two part => exact h.captureUid hB _

theorem Twin.resumeSelect (h : Twin B s t) (q : Bytes4) (l : Cascade) :
    Alongside B (resumeSelect l q c p s) (resumeSelect l q c p t) := by
  unfold Machine.resumeSelect
  split
  · split
    · split
      · exact h.advanceSelect hB _ _
      · exact h.raise _
    · exact h.raise _
  · exact h.finishAck _

theorem Twin.resumeProcedure (h : Twin B s t) (k : Nat) (ask : SelectAsk) (answers : List (Option (List Byte))) :
    Alongside B (resumeProcedure k ask answers c p s) (resumeProcedure k ask answers c p t) := by
  unfold Machine.resumeProcedure
  split
  · split
    · exact h.probeFirst fun _ _ h => h.followProcedure hB _ _
    · exact h.followProcedure hB _ _
  · exact h.finishAck _

theorem Twin.collectPage (h : Twin B s t) (done : List Bytes4) (page : Bytes4) :
    Alongside B (collectPage done page s) (collectPage done page t) := by
  unfold Machine.collectPage
  rw [h.params, h.variant]
  split
  · exact .next ((h.setSettings (hB.settings_refl _)).complete _ _)
  · exact .next ((h.goto _).load _)

theorem Twin.resumeReadSettings (h : Twin B s t) (done : List Bytes4) :
    Alongside B (resumeReadSettings done c p s) (resumeReadSettings done c p t) := by
  unfold Machine.resumeReadSettings
  split
  · split
    · split
      · exact h.collectPage hB _ _
      · exact h.raise _
    · exact h.raise _
  · exact h.finishAck _

theorem Twin.resumeWriteSettings (h : Twin B s t) (r : Settings) (n : Nat) :
    Alongside B (resumeWriteSettings r n c s) (resumeWriteSettings r n c t) := by
  unfold Machine.resumeWriteSettings
  rw [h.params, h.variant]
  split
  · split
    · exact (h.setSettings (hB.settings_refl _)).finishAck _
    · exact .next ((h.goto _).load _)
  · exact h.finishAck _

/-- The waiting command goes on alike in both runs; only PWD_AUTH reads SETTINGS and STATE. -/
theorem Twin.resume (h : Twin B s t) (hauth : s.position = .pwdAuth → B.Exact) :
    Alongside B (resume c p s) (resume c p t) := by
  cases hp : s.position <;> simp only [Machine.resume, h.position, hp]
  case idle | compPhase2 => exact .refused _
  case finish n => exact h.finish n
  case finishAck => exact h.finishAck _
  case pwdAuth => exact h.resumePwdAuth (hauth hp)
  case compPhase1 d =>
    unfold resumeCompPhase1
    split
    · exact .next ((h.goto _).load _)
    · exact h.finishAck _
  case anticoll l =>
    unfold resumeAnticoll
    split
    · exact h.probeFirst fun _ _ h => h.acceptAnticoll l
    · exact h.finishAck _
  case select l q => exact h.resumeSelect hB q l
  case procedure k ask answers => exact h.resumeProcedure hB k ask answers
  case readSettings done => exact h.resumeReadSettings hB done
  case writeSettings r n => exact h.resumeWriteSettings hB r n

/-- What `RxFrame` returns to both runs, where the same mode checks the CRC or no CRC is checked (R120). -/
theorem Twin.rxFrame (h : Twin B s t) (w : Await) (r : Response)
    (hmode : ∀ b ok, r = .full b ok → w.crc = true → t.crcMode = s.crcMode) :
    Twin B (rxFrame s w r).state (rxFrame t w r).state ∧ (rxFrame t w r).code = (rxFrame s w r).code ∧
      (rxFrame t w r).payload = (rxFrame s w r).payload := by
  cases r with
  | timeout => exact ⟨h.setSession (hB.session_refl .disconnected nofun), rfl, rfl⟩
  | short c => exact ⟨h, rfl, rfl⟩
  | full b ok =>
    refine ⟨?_, ?_⟩
    · rwa [rxFrame_state_of_ne_timeout (r := .full b ok) nofun, rxFrame_state_of_ne_timeout (r := .full b ok) nofun]
    cases hkind : w.kind with
    | ackOnly => simp [Machine.rxFrame, hkind, h.params]
    | payload =>
      cases hcrc : w.crc with
      | false => simp [Machine.rxFrame, hkind, hcrc]
      | true =>
        have hcrc16 : t.crc16 = s.crc16 := by rw [State.crc16, State.crc16, h.transport]
        simp only [Machine.rxFrame, hkind, hcrc, hmode b ok rfl hcrc, hcrc16]
        cases s.crcMode with
        | hw => cases ok <;> exact ⟨rfl, rfl⟩
        | sw => cases crcCheck s.crc16 b <;> exact ⟨rfl, rfl⟩

theorem Twin.respond (h : Twin B s t) (r : Response) (hauth : s.position = .pwdAuth → B.Exact)
    (hmode : ∀ b ok w, r = .full b ok → s.await = some w → w.crc = true → t.crcMode = s.crcMode) :
    Alongside B (respond r s) (respond r t) := by
  cases hawait : s.await with
  | none =>
    have hawait' : t.await = none := h.await.trans hawait
    simp only [Machine.respond, hawait, hawait']
    exact .refused _
  | some w =>
    obtain ⟨hstate, hcode, hpayload⟩ := h.disarm.rxFrame hB w r fun b ok hr hcrc => hmode b ok w hr hawait hcrc
    rw [respond_of hawait, respond_of (h.await.trans hawait)]
    simp only [hcode, hpayload]
    exact hstate.resume hB fun hpos => hauth ((rxFrame_position s.disarm w r).symm.trans hpos)

/-- The checks at the head of a command come out alike (R258). -/
theorem Twin.accept {g : Bool} {own : Position → Bool} (h : Twin B s t) (hbody : Alongside B (body s) (body' t)) :
    Alongside B (accept g own s body) (accept g own t body') := by
  have hconnected : t.connected = s.connected := hB.connected _ _ h.session
  unfold Machine.accept
  rw [h.fault, h.attached, h.ready, hconnected]
  split
  · exact .refused _
  · split
    · exact .refused _
    · split
      · exact .refused _
      · split
        · exact h.finishAck _
        · exact hbody

/-- ATTACH reads no register but the position and the outstanding receive (R140). -/
theorem Twin.execAttach (h : Twin B s t) (v : Byte) (tr : Transport) (m : CrcMode) :
    Alongside B (execAttach v tr m s) (execAttach v tr m t) := by
  unfold Machine.execAttach
  rw [h.ready]
  split
  · exact .refused _
  · split
    · exact .next (h.create hB _ _ _)
    · exact h.clearFault.raise _
    · exact h.clearFault.raise _

theorem Twin.execConnect (h : Twin B s t) : Alongside B (execConnect s) (execConnect t) := by
  refine h.accept hB ?_
  simp only [h.params, hB.requested _ _ h.session]
  split
  · split
    · exact .next ((h.goto _).load _)
    · exact h.followProcedure hB _ _
  · exact h.raise _

theorem Twin.execDestroy (h : Twin B s t) : Alongside B (execDestroy s) (execDestroy t) :=
  h.accept hB ((((h.setUid _).setSettings (hB.settings_refl _)).setSession (hB.session_refl .idle nofun)).finishAck _)

theorem Twin.execDisconnect (h : Twin B s t) : Alongside B (execDisconnect s) (execDisconnect t) :=
  h.accept hB ((h.setSession (hB.session_refl .disconnected nofun)).finishAck _)

theorem Twin.execReadSettings (h : Twin B s t) : Alongside B (execReadSettings s) (execReadSettings t) := by
  unfold Machine.execReadSettings
  refine h.accept hB ?_
  rw [h.variant]
  exact .next ((h.goto _).load _)

theorem Twin.execWriteSettings (h : Twin B s t) (r : Settings) :
    Alongside B (execWriteSettings r s) (execWriteSettings r t) := by
  unfold Machine.execWriteSettings
  refine h.accept hB ?_
  rw [h.variant, h.params]
  exact .next ((h.goto _).load _)

/-- The forms of the transport calls that a session with the CRC function of `s` makes are hidden by the blur. -/
def Blur.Hides (B : Blur) (s : State) : Prop := ∀ u v, Twin B u v → u.transport = s.transport →
  (∀ b n crc, B.form (v.txCall b n crc) = B.form (u.txCall b n crc)) ∧ ∀ w, B.form (v.rxCall w) = B.form (u.rxCall w)

section Calls

variable (hcalls : B.Hides s)
include hcalls

omit hB in
/-- A frame goes out, or is refused, alike (R116). -/
theorem Twin.txFrame (h : Twin B s t) (b : List Byte) (n : Nat) (crc : Bool)
    (hbody : ∀ u v, Twin B u v → u.transport = s.transport → Alongside B (body u) (body' v)) :
    Alongside B ((txFrame s b n crc).andThen body) ((txFrame t b n crc).andThen body') := by
  obtain ⟨htx, _⟩ := hcalls s t h rfl
  have hsent : Twin B (s.record (s.txCall b n crc)).afterSent (t.record (t.txCall b n crc)).afterSent :=
    (h.record (htx b n crc)).afterSent
  unfold Machine.txFrame
  rw [h.sentAll]
  split
  · exact h.raise _
  · split
    · exact h.raise _
    · split
      · exact hbody _ _ hsent rfl
      · exact hsent.raise _

omit hB in
/-- An exchange goes alike up to its receive, whatever STATE it enters on its way. -/
theorem Twin.run (h : Twin B s t) (e : Exchange) (henters : ∀ x, e.enters = some x → B.session x x) :
    Alongside B (e.run s) (e.run t) := by
  refine h.txFrame hcalls _ _ _ fun u v huv htransport => ?_
  have hafter : Twin B (e.after u) (e.after v) := by
    unfold Exchange.after
    cases hx : e.enters with
    | none => exact huv
    | some x => exact huv.setSession (henters x hx)
  have hsame : (e.after u).transport = s.transport := by
    rw [Exchange.after_eq]
    exact htransport
  obtain ⟨_, hrx⟩ := hcalls _ _ hafter hsame
  unfold callReceive
  split
  · exact hafter.raise _
  · exact .next (((hafter.record (hrx _)).arm _).goto _)

theorem Twin.probeTag (h : Twin B s t) (b : List Byte) (n : Nat) (crc : Bool) :
    Alongside B (probeTag b n crc s) (probeTag b n crc t) := by
  refine h.accept hB ?_
  simp only [h.params]
  exact h.run hcalls (probeOf s b n crc) (by rintro x ⟨⟩; exact hB.session_refl .requested nofun)

theorem Twin.execRead (h : Twin B s t) (page : Byte) : Alongside B (execRead page s) (execRead page t) := by
  refine h.accept hB ?_
  simp only [h.position]
  split
  · exact h.run hcalls (readOf [Opcode.read, page] 16 128) nofun
  · exact h.run hcalls ⟨[Opcode.read, page], 16, true, none, awaitPayload 128, s.position⟩ nofun

theorem Twin.execFastRead (h : Twin B s t) (a b : Byte) : Alongside B (execFastRead a b s) (execFastRead a b t) := by
  refine h.accept hB ?_
  split
  · exact h.raise _
  · exact h.run hcalls (readOf [Opcode.fastRead, a, b] 24 (pageCount a b * 32)) nofun

theorem Twin.execWrite (h : Twin B s t) (page : Byte) (d : Bytes4) :
    Alongside B (execWrite page d s) (execWrite page d t) := by
  refine h.accept hB ?_
  simp only [h.position]
  exact h.run hcalls ⟨[Opcode.write, page] ++ d.toList, 48, true, none, awaitAck,
    if s.position = .idle then .finishAck else s.position⟩ nofun

omit hB in
theorem Twin.execCompWriteP2 (h : Twin B s t) (d : Bytes16) :
    Alongside B (execCompWriteP2 d s) (execCompWriteP2 d t) := by
  unfold Machine.execCompWriteP2
  rw [h.fault, h.position, h.await]
  split
  · exact .refused _
  · split
    · exact h.run hcalls ⟨d.toList, 128, true, none, awaitAck, .finishAck⟩ nofun
    · exact .refused _

theorem Twin.sendSelect (h : Twin B s t) (op nvb : Byte) (u : List Byte) :
    Alongside B (sendSelect op nvb u s) (sendSelect op nvb u t) := by
  refine h.accept hB ?_
  simp only [h.position, h.params]
  split
  · exact h.run hcalls ⟨[op, nvb] ++ u, 16 + 8 * u.length, s.params.anticollCrc, none, awaitPlain 40, s.position⟩ nofun
  · exact h.run hcalls ⟨[op, nvb] ++ u, 16 + 8 * u.length, true, none, awaitPayload 8, s.position⟩ nofun
  · exact h.run hcalls ⟨[op, nvb] ++ u, 16 + 8 * u.length, _, none, selectAskAwait _, s.position⟩ nofun
  · exact h.txFrame hcalls _ _ _ fun _ _ huv _ => .next huv

theorem Twin.execHalt (h : Twin B s t) : Alongside B (execHalt s) (execHalt t) :=
  h.accept hB (h.txFrame hcalls _ _ _ fun _ _ huv _ => (huv.setSession (hB.session_refl .halted nofun)).finishAck _)

/-- Every instruction does the same to both runs, where the blur hides the calls it makes, PWD_AUTH sees no difference, and
the CRC it checks is checked in one mode. -/
theorem Twin.exec (h : Twin B s t) (i : Instr) (hauth : isResponse i = true → s.position = .pwdAuth → B.Exact)
    (hmode : ∀ b ok w, i = .payload b ok → s.await = some w → w.crc = true → t.crcMode = s.crcMode) :
    Alongside B (exec i s) (exec i t) := by
  cases i
  case request => exact h.probeTag hB hcalls _ _ _
  case wakeup => exact h.probeTag hB hcalls _ _ _
  case halt => exact h.execHalt hB hcalls
  case getVersion => exact h.accept hB (h.run hcalls (readOf [Opcode.getVersion] 8 64) nofun)
  case read page => exact h.execRead hB hcalls page
  case fastRead a b => exact h.execFastRead hB hcalls a b
  case write page d => exact h.execWrite hB hcalls page d
  case compWriteP1 page d =>
    exact h.accept hB (h.run hcalls ⟨[Opcode.compWrite, page], 16, true, none, awaitAck, .compPhase1 d⟩ nofun)
  case compWriteP2 d => exact h.execCompWriteP2 hcalls d
  case readCnt n =>
    refine h.accept hB ?_
    simp only [h.params]
    exact h.run hcalls (readOf [Opcode.readCnt, n] 16 s.params.cntBits) nofun
  case pwdAuth w =>
    exact h.accept hB (h.run hcalls ⟨Opcode.pwdAuth :: w.toList, 40, true, none, awaitPayload 16, .pwdAuth⟩ nofun)
  case readSig =>
    refine h.accept hB ?_
    simp only [h.params]
    exact h.run hcalls (readOf [Opcode.readSig, 0] 16 s.params.sigBits) nofun
  case selectL1 nvb u => exact h.sendSelect hB hcalls _ _ _
  case selectL2 nvb u => exact h.sendSelect hB hcalls _ _ _
  case payload b ok =>
    refine h.respond hB _ (hauth rfl) ?_
    rintro b' ok' w ⟨⟩
    exact hmode _ _ _ rfl
  case ack | nakArgument | nakCrc | nakAuthOverflow | nakWriteError | nakTimeout | nakDisconnected | timeout =>
    exact h.respond hB _ (hauth rfl) nofun
  case attach v tr m => exact h.execAttach hB v tr m
  case disconnect => exact h.execDisconnect hB
  case destroy => exact h.execDestroy hB
  case connect => exact h.execConnect hB
  case readSettings => exact h.execReadSettings hB
  case writeSettings r => exact h.execWriteSettings hB r

end Calls

end Lawful

end Sys2Proof.Machine
end

section
/-! The three comparisons: other settings, Authenticated for Selected, and the other CRC mode. -/

namespace Sys2Proof.Machine

open Sys2Proof.Claims

variable {s t : State}

/-- A blur that hides no call, whatever it hides else. -/
theorem Blur.hides_of_mode_eq {B : Blur} (hmode : ∀ m m', B.mode m m' → m' = m) (s : State) : B.Hides s := by
  intro u v h _
  have hmode' : v.crcMode = u.crcMode := hmode _ _ h.mode
  have hcrc16 : v.crc16 = u.crc16 := by rw [State.crc16, State.crc16, h.transport]
  exact ⟨fun b n crc => by rw [State.txCall, State.txCall, hmode', hcrc16],
    fun w => by rw [State.rxCall, State.rxCall, hmode']⟩

/-- Two runs with any two records of settings. -/
def anySettings : Blur := ⟨Eq, fun _ _ => True, Eq, id⟩

theorem anySettings_lawful : anySettings.Lawful where
  session_refl _ _ := rfl
  settings_refl _ := trivial
  mode_refl _ := rfl
  connected _ _ h := h ▸ rfl
  requested _ _ h := h ▸ Iff.rfl

/-- Where calls are compared as they are, both runs make the same. -/
theorem Twin.events_eq {B : Blur} (h : Twin B s t) (hform : B.form = id) : t.events = s.events := by
  obtain ⟨_, _, _, hev⟩ := h
  rwa [hform, List.map_id, List.map_id] at hev

/-- Settles O21. -/
theorem onlyPwdAuthReadsSettings : Obligations.OnlyPwdAuthReadsSettings := by
  intro i s r hpos
  have htwin : Twin anySettings (s.setSettings r) s := .intro (s := s.setSettings r) rfl trivial rfl rfl
  have hcalls : anySettings.Hides (s.setSettings r) := Blur.hides_of_mode_eq (fun _ _ h => Eq.symm h) _
  refine (htwin.exec anySettings_lawful hcalls i (fun _ h => absurd h hpos) fun _ _ _ _ _ _ => rfl).mapNext_eq ?_
  intro u v huv
  have hev := huv.events_eq rfl
  obtain ⟨rfl, _, rfl, _⟩ := huv
  obtain rfl : _ = u.events := hev
  rfl

/-- Authenticated in one run goes with Selected in the other, and every other STATE with itself. -/
def authAsSelected : Blur := ⟨fun x y => y = if x = .authenticated then .selected else x, Eq, Eq, id⟩

theorem authAsSelected_lawful : authAsSelected.Lawful where
  session_refl x hx := (if_neg hx).symm
  settings_refl _ := rfl
  mode_refl _ := rfl
  connected x _ h := by subst h; cases x <;> rfl
  requested x _ h := by subst h; cases x <;> simp

theorem accept_of_busy {g : Bool} {own : Position → Bool} {body : State → Out} (hbusy : s.ready own = false) :
    ∃ r, accept g own s body = .refused r := by
  unfold accept
  split
  · exact ⟨_, rfl⟩
  · rw [if_pos hbusy]
    split <;> exact ⟨_, rfl⟩

/-- While PWD_AUTH runs everything but a response is refused (R280). -/
theorem exec_refused_of_pwdAuth {i : Instr} (hi : isResponse i = false) (hpos : s.position = .pwdAuth) :
    ∃ r, exec i s = .refused r := by
  have hbusy : ∀ own : Position → Bool, own .pwdAuth = false → s.ready own = false := fun own hown => by
    simp [State.ready, hpos, hown]
  by_cases hcommand : gated i = true ∨ ungated i = true
  · obtain ⟨own, body, hexec, hown⟩ := exec_eq_accept hcommand
    rw [hexec]
    exact accept_of_busy (hbusy own hown)
  cases i
  case compWriteP2 d =>
    rw [exec, execCompWriteP2]
    split
    · exact ⟨_, rfl⟩
    · exact ⟨_, if_neg (by simp [hpos])⟩
  case attach => exact ⟨_, exec_attach_of_running (by simp [hpos])⟩
  case selectL1 =>
    rw [exec, execSelectL1, sendSelect]
    exact accept_of_busy (hbusy Position.ownsSelect rfl)
  case selectL2 =>
    rw [exec, execSelectL2, sendSelect]
    exact accept_of_busy (hbusy Position.ownsSelect rfl)
  case ack | nakArgument | nakCrc | nakAuthOverflow | nakWriteError | nakTimeout | nakDisconnected | payload | timeout =>
    cases hi
  all_goals simp [gated, ungated] at hcommand

/-- A running PWD_AUTH leads Authenticated and Selected to the same (R205, D12). -/
theorem resumePwdAuth_asSelected (hauth : s.session = .authenticated) (c : AckCode) (p : Option (List Byte)) :
    resumePwdAuth c p (asSelected s) = resumePwdAuth c p s := by
  unfold resumePwdAuth
  rw [if_pos hauth]
  rfl

theorem asSelected_twin (hauth : s.session = .authenticated) : Twin authAsSelected s (asSelected s) :=
  .intro (by simp [authAsSelected, hauth]) rfl rfl rfl

/-- An answer to PWD_AUTH. -/
theorem respond_asSelected (hauth : s.session = .authenticated) (hpos : s.position = .pwdAuth) (r : Response) :
    respond r (asSelected s) = respond r s := by
  cases hawait : s.await with
  | none => simp [respond, asSelected, hawait]
  | some w =>
    have htwin := (asSelected_twin hauth).disarm
    obtain ⟨_, hcode, hpayload⟩ := htwin.rxFrame authAsSelected_lawful w r fun _ _ _ _ => rfl
    rw [respond_of hawait, respond_of (s := asSelected s) hawait]
    by_cases hr : r = .timeout
    · subst hr
      rfl
    · simp only [rxFrame_state_of_ne_timeout hr, hcode, hpayload]
      have hresume : ∀ u : State, u.position = .pwdAuth → ∀ c p, resume c p u = resumePwdAuth c p u := fun u hu c p => by
        simp [resume, hu]
      rw [hresume (asSelected s).disarm hpos, hresume s.disarm hpos]
      exact resumePwdAuth_asSelected (s := s.disarm) hauth _ _

/-- Settles O20: outside PWD_AUTH by the comparison, within it a response by `respond_asSelected`, and everything else is
refused. -/
theorem authenticatedRunsLikeSelected : Obligations.AuthenticatedRunsLikeSelected := by
  intro i s hauth
  have htwin := asSelected_twin hauth
  have hcalls : authAsSelected.Hides s := Blur.hides_of_mode_eq (fun _ _ h => Eq.symm h) _
  refine ⟨fun hpos => ?_, fun hpos => ?_⟩
  · refine (htwin.exec authAsSelected_lawful hcalls i (fun _ h => absurd h hpos) fun _ _ _ _ _ _ => rfl).mapNext_eq_right ?_
    intro u v huv
    have hev := huv.events_eq rfl
    obtain ⟨rfl, rfl, rfl, _⟩ := huv
    obtain rfl : _ = u.events := hev
    by_cases hu : u.session = .authenticated
    · rw [if_pos hu, if_pos hu]
      rfl
    · rw [if_neg hu, if_neg hu]
      rfl
  · cases hi : isResponse i with
    | true =>
      obtain ⟨r, hr⟩ := exists_responseOf hi
      rw [exec_of_responseOf hr, exec_of_responseOf hr, respond_asSelected hauth hpos]
    | false =>
      obtain ⟨r, hr⟩ := exec_refused_of_pwdAuth hi hpos
      have hpair := htwin.exec authAsSelected_lawful hcalls i (fun h => absurd h (by simp [hi])) fun _ _ _ _ _ _ => rfl
      rw [hr] at hpair ⊢
      exact hpair.eq_of_refused.symm

/-- Two runs in any CRC modes, whose calls are compared in their raw form with the CRC function of `s` (R58). -/
def rawCalls (s : State) : Blur := ⟨Eq, Eq, fun _ _ => True, rawForm s⟩

theorem rawCalls_lawful (s : State) : (rawCalls s).Lawful where
  session_refl _ _ := rfl
  settings_refl _ := rfl
  mode_refl _ := trivial
  connected _ _ h := h ▸ rfl
  requested _ _ h := h ▸ Iff.rfl

theorem rawCalls_exact (s : State) : (rawCalls s).Exact := ⟨fun _ => rfl, fun _ _ h => h.symm, fun _ _ h => h.symm⟩

/-- The raw form of a transmit does not tell the mode (R53, R116). -/
theorem rawForm_txCall {u : State} (htransport : u.transport = s.transport) (b : List Byte) (n : Nat) (crc : Bool) :
    rawForm s (u.txCall b n crc)
      = if crc then .transmit ⟨b ++ [lo8 (s.crc16 b), hi8 (s.crc16 b)], n + 16⟩ else .transmit ⟨b, n⟩ := by
  have hcrc16 : u.crc16 = s.crc16 := by rw [State.crc16, State.crc16, htransport]
  cases crc with
  | false => rfl
  | true =>
    rw [txCall_crc, wireTx, hcrc16]
    cases u.crcMode <;> rfl

theorem rawForm_rxCall (u : State) (w : Await) :
    rawForm s (u.rxCall w) = .receive (if w.crc then w.bits + 16 else w.bits) := by
  unfold State.rxCall
  cases w.crc <;> cases u.crcMode <;> rfl

theorem rawCalls_hides (s : State) : (rawCalls s).Hides s := by
  intro u v h htransport
  refine ⟨fun b n crc => ?_, fun w => ?_⟩
  · exact (rawForm_txCall (h.transport.trans htransport) b n crc).trans (rawForm_txCall htransport b n crc).symm
  · exact (rawForm_rxCall v w).trans (rawForm_rxCall u w).symm

/-- Two runs in any CRC modes with the same history. -/
def anyMode : Blur := ⟨Eq, Eq, fun _ _ => True, id⟩

theorem anyMode_lawful : anyMode.Lawful where
  session_refl _ _ := rfl
  settings_refl _ := rfl
  mode_refl _ := trivial
  connected _ _ h := h ▸ rfl
  requested _ _ h := h ▸ Iff.rfl

theorem anyMode_exact : anyMode.Exact := ⟨fun _ => rfl, fun _ _ h => h.symm, fun _ _ h => h.symm⟩

/-- A string with its trailer in `SW` mode and the same string stripped in `HW` mode, with the verdict of the check, bring the
command that waits the same code and the same payload (R54, R120). -/
theorem respond_stripped {w : Await} {r : List Byte} {x : Bool} (hawait : s.await = some w) (hcrc : w.crc = true)
    (hmode : s.crcMode = .sw) (hx : (crcCheck s.crc16 r).isSome = x) : ∃ c p,
      respond (.full (r.take (r.length - 2)) x) { s with crcMode := .hw }
        = resume c p (State.disarm { s with crcMode := .hw }) ∧
      respond (.full r false) s = resume c p s.disarm := by
  cases hkind : w.kind with
  | ackOnly => exact ⟨_, _, respond_noise hawait hkind, respond_noise hawait hkind⟩
  | payload =>
    cases hcheck : crcCheck s.crc16 r with
    | none =>
      have hr : ¬ crcPasses s r := fun ⟨b, hb⟩ => by simp [crcCheck_eq_some_iff.mpr hb] at hcheck
      have hx' : x = false := by rw [← hx, hcheck]; rfl
      exact ⟨_, _, respond_rejects (s := { s with crcMode := .hw }) hawait hkind hcrc ⟨nofun, fun _ => hx'⟩,
        respond_rejects hawait hkind hcrc ⟨fun _ => hr, by simp [hmode]⟩⟩
    | some b =>
      have hr : r = b ++ [lo8 (s.crc16 b), hi8 (s.crc16 b)] := crcCheck_eq_some_iff.mp hcheck
      have hx' : x = true := by rw [← hx, hcheck]; rfl
      have hstripped : r.take (r.length - 2) = b := by simp [hr]
      exact ⟨_, _, respond_delivers (s := { s with crcMode := .hw }) hawait hkind hcrc (.inr ⟨rfl, hstripped, hx'⟩),
        respond_delivers hawait hkind hcrc (.inl ⟨hmode, hr⟩)⟩

/-- Settles O19: commands and unchecked answers by the comparison of raw calls, checked answers by `respond_stripped`. -/
theorem hwAndSwAgree : Obligations.HwAndSwAgree := by
  refine ⟨fun i s _ hplain => ?unchecked, fun s w r x hawait hcrc hmode _ hx => ?checked⟩
  case unchecked =>
    have htwin : Twin (rawCalls s) { s with crcMode := .hw } s :=
      .intro (s := { s with crcMode := .hw }) rfl rfl trivial rfl
    have hcalls : (rawCalls s).Hides { s with crcMode := .hw } := rawCalls_hides s
    refine (htwin.exec (rawCalls_lawful s) hcalls i (fun _ _ => rawCalls_exact s) ?_).mapNext_eq ?_
    · intro b ok w hi hawait hcrc
      exact absurd hcrc (by simp [hplain b ok w hi hawait])
    · rintro u _ ⟨rfl, rfl, _, hev⟩
      exact congrArg (fun ev => { u with crcMode := .sw, events := ev }) hev.symm
  case checked =>
    have htwin : Twin anyMode { s with crcMode := .hw } s := .intro (s := { s with crcMode := .hw }) rfl rfl trivial rfl
    obtain ⟨c, p, hhw, hsw⟩ := respond_stripped hawait hcrc hmode hx
    rw [exec, exec, execPayload, execPayload, hhw, hsw]
    refine (htwin.disarm.resume anyMode_lawful fun _ => anyMode_exact).mapNext_eq ?_
    intro u v huv
    have hev := huv.events_eq rfl
    obtain ⟨rfl, rfl, _, _⟩ := huv
    obtain rfl : _ = u.events := hev
    rfl

end Sys2Proof.Machine
end
